-- ==== Sys2Proof/Word.lean ====
section
/-! DEFINITION. The plain data types the wire carries: a byte, a span of bytes, a 15-bit sequence number. -/
namespace Sys2Proof

/-- One byte of a span (00_scope R23: a span is a finite list of u8). -/
abbrev Byte := BitVec 8

/-- A span of bytes, first byte on the wire first (00_scope R23, R28). -/
abbrev Span := List Byte

/-- A sequence counter V(S), V(R) or last_ack: a u15 whose increment wraps modulo 2^15 (R31 to R33, R330). -/
abbrev Seq15 := BitVec 15

end Sys2Proof
end

