-- ==== Sys2Proof/Machine/Bits.lean ====
section
/-! DEFINITION. The bit-field extractor and inserter of 40_elem_status R100 and R101, sign extension (R22) and
the multi-byte reads and writes of 00_scope R24. -/
namespace Sys2Proof.Machine

/-- `field(v, lo, w)` of R100: the unsigned w-bit field of v starting at bit lo. -/
def field (v lo w : Nat) : Nat := (v >>> lo) &&& (2 ^ w - 1)

/-- `flag(v, i)` of R100: bit i as a Boolean. -/
def flag (v i : Nat) : Bool := field v i 1 == 1

/-- `put(lo, w, x)` of R101, used only with `x < 2 ^ w`. -/
def put (lo _w x : Nat) : Nat := x <<< lo

/-- A Boolean inserted at bit i as 1 or 0 (R101). -/
def putFlag (i : Nat) (b : Bool) : Nat := put i 1 b.toNat

/-- `sext_N(v)` of R22: the N-bit field v read in two's complement. -/
def sext (n v : Nat) : Int := if flag v (n - 1) then (v : Int) - 2 ^ n else v

/-- `x mod 2^N` as a natural number, the wire pattern of a signed value (R109, R130, R132, R136). -/
def wrap (n : Nat) (x : Int) : Nat := (x % 2 ^ n).toNat

/-- Whether x is an iN value (R21). -/
def fitsSigned (n : Nat) (x : Int) : Bool := decide (-(2 ^ (n - 1)) ≤ x ∧ x < 2 ^ (n - 1))

/-- Whether x is a uN value (R21). -/
def fits (n x : Nat) : Bool := decide (x < 2 ^ n)

/-- The byte of a number below 256. -/
def byte (n : Nat) : Byte := BitVec.ofNat 8 n

/-- `S[i]` (R23); the rules read it only inside the span. -/
def byteAt (S : Span) (i : Nat) : Byte := S.getD i 0

/-- Little-endian read of a whole span: `LE16`, `LE24`, `LE32` of R24 on spans of 2, 3 and 4 bytes. -/
def leNat : Span → Nat
  | [] => 0
  | b :: S => b.toNat + 2 ^ 8 * leNat S

/-- Little-endian write of k bytes: `le16`, `le24`, `le32` of R24. -/
def leBytes : Nat → Nat → Span
  | 0, _ => []
  | k + 1, v => byte (v % 2 ^ 8) :: leBytes k (v / 2 ^ 8)

/-- `BE16(S, 0)` of R24 on the two bytes of a span. -/
def be16 (b0 b1 : Byte) : Nat := b0.toNat * 2 ^ 8 + b1.toNat

/-- `be16(v)` of R24: the span whose big-endian read is v. -/
def be16Bytes (v : Nat) : Span := [byte (v / 2 ^ 8), byte (v % 2 ^ 8)]

end Sys2Proof.Machine
end

