-- ==== Sys2Proof/Config.lean ====
section
/-! DEFINITION. What a deployment fixes: the configuration record of R37 and the start delimiter of R17.
The spec leaves no value free (93_implementation_defined, Part 1), so this file holds no opaque constant. -/
namespace Sys2Proof

/-- The configuration `cfg` of 10_state R37, set only by `RESET` (R362). -/
structure Cfg where
  /-- `P_COT_W`, R14: width in bytes of the cause of transmission, 1 or 2. -/
  cotW : Nat
  /-- `P_CA_W`, R15: width in bytes of the common address, 1 or 2. -/
  caW : Nat
  /-- `P_IOA_W`, R16: width in bytes of an information-object address, 1 to 3. -/
  ioaW : Nat
  /-- `P_MAX_LEN`, R18: the largest frame length byte accepted and produced, 4 to 255. -/
  maxLen : Nat
  /-- `P_S_TX_ADVANCES_VS`, R19: whether an outgoing S-frame increments V(S). -/
  sTxAdvancesVs : Bool
deriving DecidableEq, Repr

/-- The ranges of R14, R15, R16 and R18. A record outside them is no configuration (R360). -/
abbrev Cfg.Ok (c : Cfg) : Prop :=
  (c.cotW = 1 ∨ c.cotW = 2) ∧ (c.caW = 1 ∨ c.caW = 2) ∧ (c.ioaW = 1 ∨ c.ioaW = 2 ∨ c.ioaW = 3) ∧
    4 ≤ c.maxLen ∧ c.maxLen ≤ 255

/-- `P_START` = 0x68, the frame start delimiter (R17). -/
def pStart : Byte := 0x68

/-- The 104 profile with `P_S_TX_ADVANCES_VS` true, the argument of the `RESET` example of R360.
DESIGN CHOICE (log entry 1): the configuration the model's reset state holds. -/
def profile104 : Cfg := { cotW := 2, caW := 2, ioaW := 3, maxLen := 253, sTxAdvancesVs := true }

end Sys2Proof
end

