-- ==== Sys2Proof/Syntax.lean ====
section
/-! DEFINITION. The values the block handles (elements, APCI, ASDU, APDU), the requests its owner issues
(the sixteen operations of R10) and the instructions: ONE constructor of `Instr` for each row of the opcode
table (R94), carrying the operation that selected that row with the operation's operands. -/
namespace Sys2Proof

/-! ### Element values (40_elem_status to 44_elem_time)

Numeric fields are unbounded `Nat` or `Int`: a value that does not fit its wire width is a legal operand of an
encoder, which raises X1 (R101). Decoders give only values in range. -/

/-- The four quality flags shared by QDS, SIQ, DIQ, QDP and SEP (R103). -/
structure Q4 where
  bl : Bool
  sb : Bool
  nt : Bool
  iv : Bool
deriving DecidableEq, Repr

/-- Quality descriptor (R104). -/
structure QDS extends Q4 where
  ov : Bool
deriving DecidableEq, Repr

/-- Single-point information (R105). -/
structure SIQ extends Q4 where
  spi : Bool
deriving DecidableEq, Repr

/-- Double-point information (R107); `dpi` is the number 0 to 3 (R108). -/
structure DIQ extends Q4 where
  dpi : Nat
deriving DecidableEq, Repr

/-- Value with transient state indication (R109). -/
structure VTI where
  value : Int
  t : Bool
deriving DecidableEq, Repr

/-- Status and status change detection (R112). -/
structure SCD where
  st : Nat
  cd : Nat
deriving DecidableEq, Repr

/-- Quality descriptor for events of protection equipment (R113). -/
structure QDP extends Q4 where
  ei : Bool
deriving DecidableEq, Repr

/-- Single event of protection equipment (R114). -/
structure SEP extends Q4 where
  es : Nat
  ei : Bool
deriving DecidableEq, Repr

/-- Start events of protection equipment (R115). -/
structure SPE where
  gs : Bool
  sl1 : Bool
  sl2 : Bool
  sl3 : Bool
  sie : Bool
  srd : Bool
deriving DecidableEq, Repr

/-- Output circuit information of protection equipment (R116). -/
structure OCI where
  gc : Bool
  cl1 : Bool
  cl2 : Bool
  cl3 : Bool
deriving DecidableEq, Repr

/-- Binary counter reading (R136). -/
structure BCR where
  counter : Int
  sq : Nat
  cy : Bool
  ca : Bool
  iv : Bool
deriving DecidableEq, Repr

/-- Single command (R141). -/
structure SCO where
  scs : Bool
  qu : Nat
  se : Bool
deriving DecidableEq, Repr

/-- Double command (R142). -/
structure DCO where
  dcs : Nat
  qu : Nat
  se : Bool
deriving DecidableEq, Repr

/-- Regulating step command (R143). -/
structure RCO where
  rcs : Nat
  qu : Nat
  se : Bool
deriving DecidableEq, Repr

/-- Qualifier of set-point command (R144). -/
structure QOS where
  ql : Nat
  se : Bool
deriving DecidableEq, Repr

/-- Qualifier of counter interrogation command (R146). -/
structure QCC where
  rqt : Nat
  frz : Nat
deriving DecidableEq, Repr

/-- Qualifier of parameter of measured values (R147). -/
structure QPM where
  kpa : Nat
  lpc : Bool
  pop : Bool
deriving DecidableEq, Repr

/-- Cause of initialization (R150). -/
structure COI where
  cause : Nat
  bs1 : Bool
deriving DecidableEq, Repr

/-- File ready qualifier (R165). -/
structure FRQ where
  code : Nat
  neg : Bool
deriving DecidableEq, Repr

/-- Section ready qualifier (R166). -/
structure SRQ where
  code : Nat
  notReady : Bool
deriving DecidableEq, Repr

/-- Select and call qualifier (R167). -/
structure SCQ where
  code : Nat
  err : Nat
deriving DecidableEq, Repr

/-- Acknowledge file or section qualifier (R169). -/
structure AFQ where
  code : Nat
  err : Nat
deriving DecidableEq, Repr

/-- Status of file (R170). -/
structure SOF where
  status : Nat
  lfd : Bool
  forDir : Bool
  fa : Bool
deriving DecidableEq, Repr

/-- CP16Time2a (R180). -/
structure CP16 where
  ms : Nat
deriving DecidableEq, Repr

/-- CP24Time2a (R182). -/
structure CP24 where
  ms : Nat
  min : Nat
  iv : Bool
deriving DecidableEq, Repr

/-- CP56Time2a (R184). -/
structure CP56 extends CP24 where
  hour : Nat
  su : Bool
  day : Nat
  dow : Nat
  month : Nat
  year : Nat
deriving DecidableEq, Repr

/-- The 40 element codecs of the catalog (R261). -/
inductive Elem where
  | qds | siq | diq | vti | bsi | scd | qdp | sep | spe | oci
  | nva | sva | r32 | bcr
  | sco | dco | rco | qos | qoi | qcc | qpm | qpa | qrp | coi | fbp | tsc
  | nof | nos | lof | los | chs | frq | srq | scq | lsq | afq | sof
  | cp16 | cp24 | cp56
deriving DecidableEq, Repr

/-- The value of one element, one constructor per codec of the catalog. -/
inductive ElemV where
  | qds (v : QDS)
  | siq (v : SIQ)
  | diq (v : DIQ)
  | vti (v : VTI)
  /-- a 32-bit string, R110 -/
  | bsi (v : Nat)
  | scd (v : SCD)
  | qdp (v : QDP)
  | sep (v : SEP)
  | spe (v : SPE)
  | oci (v : OCI)
  /-- the raw i16 of R130, whose fraction is `nvaValue` -/
  | nva (raw : Int)
  | sva (v : Int)
  /-- the 32-bit pattern of R134, never interpreted -/
  | r32 (p : Nat)
  | bcr (v : BCR)
  | sco (v : SCO)
  | dco (v : DCO)
  | rco (v : RCO)
  | qos (v : QOS)
  | qoi (v : Nat)
  | qcc (v : QCC)
  | qpm (v : QPM)
  | qpa (v : Nat)
  | qrp (v : Nat)
  | coi (v : COI)
  | fbp (v : Nat)
  | tsc (v : Nat)
  | nof (v : Nat)
  | nos (v : Nat)
  | lof (v : Nat)
  | los (v : Nat)
  | chs (v : Nat)
  | frq (v : FRQ)
  | srq (v : SRQ)
  | scq (v : SCQ)
  | lsq (v : Nat)
  | afq (v : AFQ)
  | sof (v : SOF)
  | cp16 (v : CP16)
  | cp24 (v : CP24)
  | cp56 (v : CP56)
deriving DecidableEq, Repr

/-- The element a value belongs to. -/
def ElemV.elem : ElemV → Elem
  | .qds _ => .qds | .siq _ => .siq | .diq _ => .diq | .vti _ => .vti | .bsi _ => .bsi
  | .scd _ => .scd | .qdp _ => .qdp | .sep _ => .sep | .spe _ => .spe | .oci _ => .oci
  | .nva _ => .nva | .sva _ => .sva | .r32 _ => .r32 | .bcr _ => .bcr
  | .sco _ => .sco | .dco _ => .dco | .rco _ => .rco | .qos _ => .qos | .qoi _ => .qoi
  | .qcc _ => .qcc | .qpm _ => .qpm | .qpa _ => .qpa | .qrp _ => .qrp | .coi _ => .coi
  | .fbp _ => .fbp | .tsc _ => .tsc
  | .nof _ => .nof | .nos _ => .nos | .lof _ => .lof | .los _ => .los | .chs _ => .chs
  | .frq _ => .frq | .srq _ => .srq | .scq _ => .scq | .lsq _ => .lsq | .afq _ => .afq
  | .sof _ => .sof
  | .cp16 _ => .cp16 | .cp24 _ => .cp24 | .cp56 _ => .cp56

/-- The field names of the element-value records of R194 to R259 (`v.siq`, `v.time`, ...). -/
inductive FieldName where
  | siq | diq | vti | bsi | nva | sva | r32 | bcr | sep | spe | oci | scd
  | sco | dco | rco | coi | qoi | qcc | fbp | qrp | tsc | qpa
  | nof | lof | frq | nos | srq | scq | lsq | chs | afq | sof
  | qds | qdp | qos | qpm
  | time | elapsed | duration | operating | delay | start | stop
deriving DecidableEq, Repr

/-- `COMP(t)` of R190: the elements of a type in wire order, each with its field name. -/
abbrev Layout := List (Elem × FieldName)

/-- An element value (R48): the named element values of one information object, in wire order. -/
abbrev Record := List (FieldName × ElemV)

/-! ### APCI, ASDU and APDU records (R46 to R48) -/

/-- The six U actions, in the order k = 0 to 5 of R76. -/
inductive UAct where
  | startdtAct | startdtCon | stopdtAct | stopdtCon | testfrAct | testfrCon
deriving DecidableEq, Repr

/-- The APCI record of R46. -/
inductive Apci where
  | i (ns nr : Nat)
  | s (nr : Nat)
  | u (act : UAct)
deriving DecidableEq, Repr

/-- The cause-of-transmission record of R47. -/
structure Cot where
  cause : Nat
  pn : Bool
  test : Bool
  oa : Option Nat
deriving DecidableEq, Repr

/-- An information object (R48). -/
structure InfoObject where
  ioa : Nat
  val : Record
deriving DecidableEq, Repr

/-- An ASDU record (R47) without its type identifier. -/
structure AsduBody where
  sq : Bool
  n : Nat
  cot : Cot
  ca : Nat
  objs : List InfoObject
deriving DecidableEq, Repr

/-- An ASDU record (R47). -/
structure Asdu extends AsduBody where
  ti : Byte
deriving DecidableEq, Repr

/-- An APDU record (R48), untyped as R313 allows: `COMPOSE` checks the format match (X5). -/
structure Apdu where
  apci : Apci
  asdu : Option Asdu
deriving DecidableEq, Repr

/-! ### Requests: the sixteen operations of R10 -/

/-- One operation the owner issues, with its operands (00_scope R9, R10). -/
inductive Request where
  /-- `ELEM_DEC(t, S)`, R190 -/
  | elemDec (t : Byte) (S : Span)
  /-- `ELEM_ENC(t, v)`, R191 -/
  | elemEnc (t : Byte) (v : Record)
  /-- `ASDU_DEC(A)`, R270 -/
  | asduDec (A : Span)
  /-- `ASDU_ENC(a)`, R280 -/
  | asduEnc (a : Asdu)
  /-- `APCI_DEC(c)`, R290 -/
  | apciDec (c : Span)
  /-- `APCI_ENC(a)`, R295 -/
  | apciEnc (a : Apci)
  /-- `SPLIT(buf)`, R300 -/
  | split (buf : Span)
  /-- `FEED(bytes)`, R304 -/
  | feed (bytes : Span)
  /-- `FRAME_DEC(f)`, R308 -/
  | frameDec (f : Span)
  /-- `COMPOSE(apdu)`, R312 -/
  | compose (p : Apdu)
  /-- `LINK_RX(p)`, R321 -/
  | linkRx (p : Apdu)
  /-- `LINK_TX_I(asdu)`, R325 -/
  | linkTxI (a : Asdu)
  /-- `LINK_TX_S()`, R326 -/
  | linkTxS
  /-- `LINK_TX_U(act)`, R327 -/
  | linkTxU (act : UAct)
  /-- `TRANSPORT_CLOSED()`, R328 -/
  | transportClosed
  /-- `RESET(c)`, R360 -/
  | reset (c : Cfg)
deriving DecidableEq, Repr

/-! ### Instructions: the rows of the opcode table, with the operation that selected the row -/

/-- The operations that select the I row by c0[0] = 0 (R72), with their operands. -/
inductive IOp where
  /-- `APCI_DEC` of four control bytes, R291 -/
  | apciDec (c0 c1 c2 c3 : Byte)
  /-- `APCI_ENC`, R296 -/
  | apciEnc (ns nr : Nat)
  /-- `FRAME_DEC` of a slice whose byte 2 is an I control byte, R308, R310 -/
  | frameDec (f : Span)
  /-- `COMPOSE` of an I APDU, R312 -/
  | compose (ns nr : Nat) (asdu : Option Asdu)
  /-- `LINK_RX` of an I APDU, R322 -/
  | linkRx (ns nr : Nat) (asdu : Asdu)
  /-- `LINK_TX_I`, R325 -/
  | linkTx (asdu : Asdu)
deriving DecidableEq, Repr

/-- The operations that select the S row by c0[1:0] = 01 (R72), with their operands. -/
inductive SOp where
  /-- `APCI_DEC` of four control bytes, R292 -/
  | apciDec (c0 c1 c2 c3 : Byte)
  /-- `APCI_ENC`, R297 -/
  | apciEnc (nr : Nat)
  /-- `FRAME_DEC` of a slice whose byte 2 is an S control byte, R308, R311 -/
  | frameDec (f : Span)
  /-- `COMPOSE` of an S APDU, R312 -/
  | compose (nr : Nat) (asdu : Option Asdu)
  /-- `LINK_RX` of an S APDU, R323 -/
  | linkRx (nr : Nat)
  /-- `LINK_TX_S`, R326 -/
  | linkTx
deriving DecidableEq, Repr

/-- The operations that select one U row by its single action bit (R75, R76), with their operands. -/
inductive UOp where
  /-- `APCI_DEC`: c0 is the row's code, c1 to c3 are carried and ignored, R293 -/
  | apciDec (c1 c2 c3 : Byte)
  /-- `APCI_ENC`, R298 -/
  | apciEnc
  /-- `FRAME_DEC` of a slice whose byte 2 is the row's code, R308, R311 -/
  | frameDec (f : Span)
  /-- `COMPOSE` of the row's U APDU, R312 -/
  | compose (asdu : Option Asdu)
  /-- `LINK_RX` of the row's U APDU, R324 -/
  | linkRx
  /-- `LINK_TX_U`, R327 -/
  | linkTx
deriving DecidableEq, Repr

/-- The operations that select a type-identifier row (R84), with their operands. -/
inductive TypeOp where
  /-- `ELEM_DEC(t, S)`, R190 -/
  | elemDec (S : Span)
  /-- `ELEM_ENC(t, v)`, R191 -/
  | elemEnc (v : Record)
  /-- `ASDU_DEC` of the span whose byte 0 is the row's type identifier and whose other bytes are `rest`, R270 -/
  | asduDec (rest : Span)
  /-- `ASDU_ENC` of the record whose type identifier is the row's, R280 -/
  | asduEnc (a : AsduBody)
deriving DecidableEq, Repr

/-- One instruction: a row of the opcode table and the operation that selected it. -/
inductive Instr where
  /-- I-format, c0[0] = 0 (R73, R291) -/
  | iFormat (op : IOp)
  /-- S-format, c0[1:0] = 01 (R74, R292) -/
  | sFormat (op : SOp)
  /-- U STARTDT_ACT, c0 = 0x07 (R76) -/
  | uStartdtAct (op : UOp)
  /-- U STARTDT_CON, c0 = 0x0B (R76) -/
  | uStartdtCon (op : UOp)
  /-- U STOPDT_ACT, c0 = 0x13 (R76) -/
  | uStopdtAct (op : UOp)
  /-- U STOPDT_CON, c0 = 0x23 (R76) -/
  | uStopdtCon (op : UOp)
  /-- U TESTFR_ACT, c0 = 0x43 (R76) -/
  | uTestfrAct (op : UOp)
  /-- U TESTFR_CON, c0 = 0x83 (R76) -/
  | uTestfrCon (op : UOp)
  /-- TI 1 M_SP_NA_1, single-point information (R194) -/
  | mSpNa1 (op : TypeOp)
  /-- TI 2 M_SP_TA_1, single-point information with time tag CP24Time2a (R195) -/
  | mSpTa1 (op : TypeOp)
  /-- TI 3 M_DP_NA_1, double-point information (R196) -/
  | mDpNa1 (op : TypeOp)
  /-- TI 4 M_DP_TA_1, double-point information with time tag CP24Time2a (R197) -/
  | mDpTa1 (op : TypeOp)
  /-- TI 5 M_ST_NA_1, step position information (R198) -/
  | mStNa1 (op : TypeOp)
  /-- TI 6 M_ST_TA_1, step position information with time tag CP24Time2a (R199) -/
  | mStTa1 (op : TypeOp)
  /-- TI 7 M_BO_NA_1, bitstring of 32 bit (R200) -/
  | mBoNa1 (op : TypeOp)
  /-- TI 8 M_BO_TA_1, bitstring of 32 bit with time tag CP24Time2a (R201) -/
  | mBoTa1 (op : TypeOp)
  /-- TI 9 M_ME_NA_1, measured value, normalized value (R202) -/
  | mMeNa1 (op : TypeOp)
  /-- TI 10 M_ME_TA_1, measured value, normalized value with time tag CP24Time2a (R203) -/
  | mMeTa1 (op : TypeOp)
  /-- TI 11 M_ME_NB_1, measured value, scaled value (R204) -/
  | mMeNb1 (op : TypeOp)
  /-- TI 12 M_ME_TB_1, measured value, scaled value with time tag CP24Time2a (R205) -/
  | mMeTb1 (op : TypeOp)
  /-- TI 13 M_ME_NC_1, measured value, short floating point number (R206) -/
  | mMeNc1 (op : TypeOp)
  /-- TI 14 M_ME_TC_1, measured value, short floating point number with time tag CP24Time2a (R207) -/
  | mMeTc1 (op : TypeOp)
  /-- TI 15 M_IT_NA_1, integrated totals (R208) -/
  | mItNa1 (op : TypeOp)
  /-- TI 16 M_IT_TA_1, integrated totals with time tag CP24Time2a (R209) -/
  | mItTa1 (op : TypeOp)
  /-- TI 17 M_EP_TA_1, event of protection equipment with time tag CP24Time2a (R210) -/
  | mEpTa1 (op : TypeOp)
  /-- TI 18 M_EP_TB_1, packed start events of protection equipment with time tag CP24Time2a (R211) -/
  | mEpTb1 (op : TypeOp)
  /-- TI 19 M_EP_TC_1, packed output circuit information of protection equipment with time tag CP24Time2a (R212) -/
  | mEpTc1 (op : TypeOp)
  /-- TI 20 M_PS_NA_1, packed single-point information with status change detection (R213) -/
  | mPsNa1 (op : TypeOp)
  /-- TI 21 M_ME_ND_1, measured value, normalized value without quality descriptor (R214) -/
  | mMeNd1 (op : TypeOp)
  /-- TI 30 M_SP_TB_1, single-point information with time tag CP56Time2a (R215) -/
  | mSpTb1 (op : TypeOp)
  /-- TI 31 M_DP_TB_1, double-point information with time tag CP56Time2a (R216) -/
  | mDpTb1 (op : TypeOp)
  /-- TI 32 M_ST_TB_1, step position information with time tag CP56Time2a (R217) -/
  | mStTb1 (op : TypeOp)
  /-- TI 33 M_BO_TB_1, bitstring of 32 bit with time tag CP56Time2a (R218) -/
  | mBoTb1 (op : TypeOp)
  /-- TI 34 M_ME_TD_1, measured value, normalized value with time tag CP56Time2a (R219) -/
  | mMeTd1 (op : TypeOp)
  /-- TI 35 M_ME_TE_1, measured value, scaled value with time tag CP56Time2a (R220) -/
  | mMeTe1 (op : TypeOp)
  /-- TI 36 M_ME_TF_1, measured value, short floating point number with time tag CP56Time2a (R221) -/
  | mMeTf1 (op : TypeOp)
  /-- TI 37 M_IT_TB_1, integrated totals with time tag CP56Time2a (R222) -/
  | mItTb1 (op : TypeOp)
  /-- TI 38 M_EP_TD_1, event of protection equipment with time tag CP56Time2a (R223) -/
  | mEpTd1 (op : TypeOp)
  /-- TI 39 M_EP_TE_1, packed start events of protection equipment with time tag CP56Time2a (R224) -/
  | mEpTe1 (op : TypeOp)
  /-- TI 40 M_EP_TF_1, packed output circuit information of protection equipment with time tag CP56Time2a (R225) -/
  | mEpTf1 (op : TypeOp)
  /-- TI 45 C_SC_NA_1, single command (R226) -/
  | cScNa1 (op : TypeOp)
  /-- TI 46 C_DC_NA_1, double command (R227) -/
  | cDcNa1 (op : TypeOp)
  /-- TI 47 C_RC_NA_1, regulating step command (R228) -/
  | cRcNa1 (op : TypeOp)
  /-- TI 48 C_SE_NA_1, set-point command, normalized value (R229) -/
  | cSeNa1 (op : TypeOp)
  /-- TI 49 C_SE_NB_1, set-point command, scaled value (R230) -/
  | cSeNb1 (op : TypeOp)
  /-- TI 50 C_SE_NC_1, set-point command, short floating point number (R231) -/
  | cSeNc1 (op : TypeOp)
  /-- TI 51 C_BO_NA_1, bitstring of 32 bit command (R232) -/
  | cBoNa1 (op : TypeOp)
  /-- TI 58 C_SC_TA_1, single command with time tag CP56Time2a (R233) -/
  | cScTa1 (op : TypeOp)
  /-- TI 59 C_DC_TA_1, double command with time tag CP56Time2a (R234) -/
  | cDcTa1 (op : TypeOp)
  /-- TI 60 C_RC_TA_1, regulating step command with time tag CP56Time2a (R235) -/
  | cRcTa1 (op : TypeOp)
  /-- TI 61 C_SE_TA_1, set-point command, normalized value with time tag CP56Time2a (R236) -/
  | cSeTa1 (op : TypeOp)
  /-- TI 62 C_SE_TB_1, set-point command, scaled value with time tag CP56Time2a (R237) -/
  | cSeTb1 (op : TypeOp)
  /-- TI 63 C_SE_TC_1, set-point command, short floating point number with time tag CP56Time2a (R238) -/
  | cSeTc1 (op : TypeOp)
  /-- TI 64 C_BO_TA_1, bitstring of 32 bit command with time tag CP56Time2a (R239) -/
  | cBoTa1 (op : TypeOp)
  /-- TI 70 M_EI_NA_1, end of initialization (R240) -/
  | mEiNa1 (op : TypeOp)
  /-- TI 100 C_IC_NA_1, interrogation command (R241) -/
  | cIcNa1 (op : TypeOp)
  /-- TI 101 C_CI_NA_1, counter interrogation command (R242) -/
  | cCiNa1 (op : TypeOp)
  /-- TI 102 C_RD_NA_1, read command (R243) -/
  | cRdNa1 (op : TypeOp)
  /-- TI 103 C_CS_NA_1, clock synchronization command (R244) -/
  | cCsNa1 (op : TypeOp)
  /-- TI 104 C_TS_NA_1, test command (R245) -/
  | cTsNa1 (op : TypeOp)
  /-- TI 105 C_RP_NA_1, reset process command (R246) -/
  | cRpNa1 (op : TypeOp)
  /-- TI 106 C_CD_NA_1, delay acquisition command (R247) -/
  | cCdNa1 (op : TypeOp)
  /-- TI 107 C_TS_TA_1, test command with time tag CP56Time2a (R248) -/
  | cTsTa1 (op : TypeOp)
  /-- TI 110 P_ME_NA_1, parameter of measured value, normalized value (R249) -/
  | pMeNa1 (op : TypeOp)
  /-- TI 111 P_ME_NB_1, parameter of measured value, scaled value (R250) -/
  | pMeNb1 (op : TypeOp)
  /-- TI 112 P_ME_NC_1, parameter of measured value, short floating point number (R251) -/
  | pMeNc1 (op : TypeOp)
  /-- TI 113 P_AC_NA_1, parameter activation (R252) -/
  | pAcNa1 (op : TypeOp)
  /-- TI 120 F_FR_NA_1, file ready (R253) -/
  | fFrNa1 (op : TypeOp)
  /-- TI 121 F_SR_NA_1, section ready (R254) -/
  | fSrNa1 (op : TypeOp)
  /-- TI 122 F_SC_NA_1, call directory, select file, call file, call section (R255) -/
  | fScNa1 (op : TypeOp)
  /-- TI 123 F_LS_NA_1, last section, last segment (R256) -/
  | fLsNa1 (op : TypeOp)
  /-- TI 124 F_AF_NA_1, ack file, ack section (R257) -/
  | fAfNa1 (op : TypeOp)
  /-- TI 126 F_DR_TA_1, directory (R258) -/
  | fDrTa1 (op : TypeOp)
  /-- TI 127 F_SC_NB_1, query log, request archive file (R259) -/
  | fScNb1 (op : TypeOp)
deriving DecidableEq, Repr

end Sys2Proof
end

