-- ==== Sys2Proof/Machine/State.lean ====
section
/-! DEFINITION. The error values of 60_exceptions, the results of operations, the state of one instance
(10_state R30), the state of a run, and reset (70_reset R360). -/
namespace Sys2Proof.Machine

/-! ### Error values (10_state R49, 60_exceptions R340 to R347) -/

/-- What an M11 error names: an element codec (R102) or the type of ELEM_DEC (R190). Log entry 10. -/
inductive SpanSite where
  | element (e : Elem)
  | type (ti : Byte)
deriving DecidableEq, Repr

/-- The MalformedFrame sub-codes of R342, with the information each records. -/
inductive Malformed where
  /-- M1 BadStartDelimiter at offset p -/
  | m1 (p : Nat)
  /-- M2 LengthExceedsBuffer at offset p -/
  | m2 (p : Nat)
  /-- M3 LengthTooShort -/
  | m3 (L : Nat)
  /-- M4 LengthTooLong -/
  | m4 (L : Nat)
  /-- M5 FrameSizeMismatch -/
  | m5
  /-- M6 ControlFrameLength -/
  | m6 (L : Nat)
  /-- M7 AsduTooShort -/
  | m7
  /-- M8 ZeroObjectCount -/
  | m8
  /-- M9 ChunkDivision -/
  | m9
  /-- M10 ElementWidthMismatch: the type and the derived width -/
  | m10 (ti : Byte) (ew : Nat)
  /-- M11 ElementSpanLength: the element or type, and the span length -/
  | m11 (site : SpanSite) (len : Nat)
deriving DecidableEq, Repr

/-- The UnsupportedType sub-codes of R343. -/
inductive Unsupported where
  /-- U1 UnknownTypeId -/
  | u1 (ti : Byte)
  /-- U2 BadUActionPattern -/
  | u2 (c0 : Byte)
deriving DecidableEq, Repr

/-- The SequenceViolation sub-codes of R344. -/
inductive Violation where
  /-- S1 IFrameMismatch -/
  | s1 (expectedNr expectedNs gotNr gotNs : Nat)
  /-- S2 SFrameMismatch -/
  | s2 (expectedNr gotNr : Nat)
deriving DecidableEq, Repr

/-- The fields of elements that an encoder range-checks (40 to 44). -/
inductive SubField where
  | value | dpi | es | st | cd | raw | counter | sq
  | qu | dcs | rcs | ql | rqt | frz | kpa | cause | code | err | status
  | ms | min | hour | day | dow | month | year
deriving DecidableEq, Repr

/-- The field an X1 error names (R346): a field of an element, or one of the header. -/
inductive RangeField where
  | element (e : Elem) (f : SubField)
  | ns | nr | cause | oa | ca | ioa
deriving DecidableEq, Repr

/-- The EncodeError sub-codes of R346. -/
inductive EncodeFail where
  /-- X1 FieldRange -/
  | x1 (f : RangeField)
  /-- X2 CountMismatch: n and the list length -/
  | x2 (n len : Nat)
  /-- X3 NonConsecutiveAddress: index of the first wrong address -/
  | x3 (idx : Nat)
  /-- X4 FrameTooLong -/
  | x4 (L : Nat)
  /-- X5 FormatMismatch -/
  | x5
deriving DecidableEq, Repr

/-- The six error kinds of R340 with their sub-codes. -/
inductive Err where
  | malformedFrame (m : Malformed)
  | unsupportedType (u : Unsupported)
  | sequenceViolation (v : Violation)
  | connectionClosed
  | encodeError (x : EncodeFail)
  /-- carries `st.FERR`, the error that stopped the framer (R347) -/
  | framerStopped (ferr : Option Malformed)
deriving DecidableEq, Repr

/-! ### Results of operations -/

/-- The status of `SPLIT` and `FEED` (R49, R302, R348). -/
inductive Status where
  | ok
  | incomplete (k : Nat)
  | error (m : Malformed)
deriving DecidableEq, Repr

/-- The verdict of `LINK_RX` (R321). -/
inductive Verdict where
  | acceptI (asdu : Asdu)
  | acceptS
  | control (act : UAct)
deriving DecidableEq, Repr

/-- The result of one operation (R10): a value or an error (R355). -/
inductive Response where
  /-- `ELEM_DEC` -/
  | elem (v : Record)
  /-- `ELEM_ENC`, `ASDU_ENC`, `APCI_ENC`, `COMPOSE` and the `LINK_TX_*` -/
  | bytes (S : Span)
  /-- `ASDU_DEC` -/
  | asdu (a : Asdu)
  /-- `APCI_DEC` -/
  | apci (a : Apci)
  /-- `SPLIT`, `FEED` -/
  | frames (fs : List Span) (st : Status)
  /-- `FRAME_DEC` -/
  | apdu (p : Apdu)
  /-- `LINK_RX` -/
  | verdict (v : Verdict)
  /-- `TRANSPORT_CLOSED`, `RESET`: no result -/
  | done
  /-- the operation raised -/
  | err (e : Err)
deriving DecidableEq, Repr

/-! ### State -/

/-- `st.LINK` of R34. -/
inductive Link where
  | connected | closed
deriving DecidableEq, Repr

/-- `st.FRAMER` of R36. -/
inductive Framer where
  | run | stopped
deriving DecidableEq, Repr

/-- What one instance of the block holds: exactly the eight fields of R30 (R31 to R37), and no other. -/
structure Block where
  /-- `st.VS`, R31 -/
  vs : Seq15
  /-- `st.VR`, R32 -/
  vr : Seq15
  /-- `st.LAST_ACK`, R33 -/
  lastAck : Seq15
  /-- `st.LINK`, R34 -/
  link : Link
  /-- `st.RXBUF`, R35 -/
  rxbuf : Span
  /-- `st.FRAMER`, R36 -/
  framer : Framer
  /-- `st.FERR`, R36 -/
  ferr : Option Malformed
  /-- `cfg`, R37 -/
  cfg : Cfg
deriving DecidableEq, Repr

/-- The block right after `RESET(c)`: every field at its value of R43. -/
def Block.reset (c : Cfg) : Block :=
  { vs := 0, vr := 0, lastAck := 0, link := .connected, rxbuf := [], framer := .run, ferr := none, cfg := c }

/-- The state of a run: the block of R30, and beside it the owner's side of the operation interface, which is no
state of the block and which no operation reads (log entry 2). -/
structure State extends Block where
  /-- the OWNER's, not the block's: operations issued and not yet performed, oldest first (R9, R61, R374) -/
  reqs : List Request
  /-- the OWNER's, not the block's: results given so far, oldest first (R374) -/
  resps : List Response
deriving DecidableEq, Repr

/-- The state after `RESET(profile104)` (R43, R360), with no operation issued and no result given.
DESIGN CHOICE (log entry 1) in its configuration, which the spec leaves to the owner. -/
def State.reset : State := { toBlock := Block.reset profile104, reqs := [], resps := [] }

/-- No fault: every error of the block is a result of its operation (R355), and "No behaviour of the block is
modelled as `fault` or `stuck`" (93_implementation_defined). Raised by nothing. -/
inductive Fault where
deriving DecidableEq, Repr

/-- The reasons the model gives a request no meaning. -/
inductive Refusal where
  /-- An instruction without a meaning; raised by an arm of `exec` only, and by none now. Safe: the model stops. -/
  | notModelled (mnemonic : String)
  /-- An operand that is no value of its record type: an element value whose fields are not those of its type
  (R191), an APDU with the wrong ASDU presence given to LINK_RX (R48, R321), a configuration out of range
  (R360). The spec refuses it before the operation. Raised by `step`. Safe: the model stops. Log entry 7. -/
  | illTypedOperand
deriving DecidableEq, Repr

end Sys2Proof.Machine
end

