-- ==== Sys2Proof/Machine/Ops.lean ====
section
/-! DEFINITION. The named updates of the state, the way a result or an error is delivered to the owner
(60_exceptions R353: in place of trap entry), and `RESET`. There is no return from an exception (R354). -/
namespace Sys2Proof.Machine

/-- What a meaning answers. -/
abbrev Result := Host.Outcome State Fault Refusal

/-- The operation's one result is given to the owner (R9, R374). -/
def State.respond (s : State) (r : Response) : State := { s with resps := s.resps ++ [r] }

/-- V(S) := V(S) + 1 modulo 2^15 (R325, R326, R330). -/
def State.advanceVs (s : State) : State := { s with vs := s.vs + 1 }

/-- LAST_ACK := nr and V(R) := V(R) + 1 modulo 2^15 (R322, R323, R330). -/
def State.accept (s : State) (nr : Nat) : State := { s with lastAck := BitVec.ofNat 15 nr, vr := s.vr + 1 }

/-- LINK := CLOSED (R322, R323, R328). -/
def State.close (s : State) : State := { s with link := .closed }

/-- RXBUF := S (R304). -/
def State.setTail (s : State) (S : Span) : State := { s with rxbuf := S }

/-- The framer stops on the error m and drops its tail (R304, R351 (b)). -/
def State.stopFramer (s : State) (m : Malformed) : State :=
  { s with rxbuf := [], framer := .stopped, ferr := some m }

/-- Every field of R30 at its reset value, with the configuration c (R43, R360). The owner's two lists are not the
block's and stay as they are. -/
def State.resetTo (s : State) (c : Cfg) : State := { s with toBlock := Block.reset c }

/-- The operation ends with the result r and no other effect. -/
def reply (r : Response) (s : State) : Result := .next (s.respond r)

/-- RAISING AN ERROR, the one shared operation: the error is the operation's result, given to the owner, and the
state is otherwise unchanged (R341, R353). The two errors with a state effect (R351) change the state first. -/
def raise (e : Err) (s : State) : Result := reply (.err e) s

/-- The result of a stateless operation: its value or its error (R11, R341). -/
def answer (r : Except Err Response) (s : State) : Result :=
  match r with
  | .ok x => reply x s
  | .error e => raise e s

/-- M1 to M11 as an error. -/
def malformed (m : Malformed) : Err := .malformedFrame m

/-- X1 for a field of element e. -/
def fieldRange (e : Elem) (f : SubField) : Err := .encodeError (.x1 (.element e f))

end Sys2Proof.Machine
end

