-- ==== Sys2Proof/Machine/ApciCodec.lean ====
section
/-! DEFINITION. The APCI codec: `APCI_DEC` and `APCI_ENC` (47_apci R290 to R298, 30_encoding R72 to R76). -/
namespace Sys2Proof.Machine

/-- The action index k of R76. -/
def uIndex : UAct → Nat
  | .startdtAct => 0 | .startdtCon => 1 | .stopdtAct => 2 | .stopdtCon => 3 | .testfrAct => 4 | .testfrCon => 5

/-- Control byte c0 of a U frame: bit k + 2 and the format bits 11 (R76, R298). -/
def uCode (a : UAct) : Byte := byte ((1 <<< (uIndex a + 2)) ||| 0x03)

/-- The action whose bit alone is set in `bits = c0[7:2]`, none if not exactly one bit is set (R293). -/
def uActOfBits (bits : Nat) : Option UAct :=
  match bits with
  | 0b000001 => some .startdtAct
  | 0b000010 => some .startdtCon
  | 0b000100 => some .stopdtAct
  | 0b001000 => some .stopdtCon
  | 0b010000 => some .testfrAct
  | 0b100000 => some .testfrCon
  | _ => none

/-- The three formats c0 selects (R72), and in the U format the action, if any (R89). -/
inductive Format where
  | i | s | u (act : Option UAct)
deriving DecidableEq, Repr

/-- The format test of R72 and R290, on control byte 0 alone (R54). -/
def formatOf (c0 : Byte) : Format :=
  if flag c0.toNat 0 = false then .i else
  if field c0.toNat 0 2 = 0b01 then .s else
  .u (uActOfBits (field c0.toNat 2 6))

/-- I-format decode (R291): both numbers are the upper 15 bits of a little-endian pair. -/
def iDecode (c0 c1 c2 c3 : Byte) : Apci := .i (leNat [c0, c1] >>> 1) (leNat [c2, c3] >>> 1)

/-- S-format decode (R292). -/
def sDecode (c2 c3 : Byte) : Apci := .s (leNat [c2, c3] >>> 1)

/-- `APCI_DEC(c)` (R290). -/
def apciDec : Span → Except Err Apci
  | [c0, c1, c2, c3] =>
    match formatOf c0 with
    | .i => .ok (iDecode c0 c1 c2 c3)
    | .s => .ok (sDecode c2 c3)
    | .u (some act) => .ok (.u act)
    | .u none => .error (.unsupportedType (.u2 c0))
  | _ => .error (malformed .m5)

/-- `APCI_ENC(a)` (R295): X1 for a sequence number of 2^15 or more. DESIGN CHOICE (log entry 16): when ns and nr are
both out of range the X1 names ns; R295 asserts both at once and R346 says only that the field is recorded. -/
def apciEnc : Apci → Except Err Span
  | .i ns nr =>
    if 2 ^ 15 ≤ ns then .error (.encodeError (.x1 .ns)) else
    if 2 ^ 15 ≤ nr then .error (.encodeError (.x1 .nr)) else
    .ok (leBytes 2 (ns <<< 1) ++ leBytes 2 (nr <<< 1))
  | .s nr =>
    if 2 ^ 15 ≤ nr then .error (.encodeError (.x1 .nr)) else .ok (0x01 :: 0x00 :: leBytes 2 (nr <<< 1))
  | .u act => .ok [uCode act, 0x00, 0x00, 0x00]

end Sys2Proof.Machine
end

