-- ==== Sys2Proof/Machine/Layouts.lean ====
section
/-! DEFINITION. The element-type dispatch tables: the width of each element (40 to 44) and `COMP(t)` of each
supported type identifier (30_encoding R84, 45_type_dispatch R192 to R259). -/
namespace Sys2Proof.Machine

/-- The width in bytes of each element codec (R56 and the rule of each element). -/
def elemWidth : Elem → Nat
  | .qds | .siq | .diq | .vti | .qdp | .sep | .spe | .oci => 1
  | .bsi | .scd | .r32 => 4
  | .nva | .sva => 2
  | .bcr => 5
  | .sco | .dco | .rco | .qos | .qoi | .qcc | .qpm | .qpa | .qrp | .coi => 1
  | .fbp | .tsc | .nof => 2
  | .lof => 3
  | .nos | .los | .chs | .frq | .srq | .scq | .lsq | .afq | .sof => 1
  | .cp16 => 2
  | .cp24 => 3
  | .cp56 => 7

/-- `W(t)` of R192: the sum of the widths of the elements of `COMP(t)`. -/
def layoutWidth : Layout → Nat
  | [] => 0
  | (e, _) :: rest => elemWidth e + layoutWidth rest

/-- Whether v has exactly the fields of the layout, in wire order, each of its element (R191). -/
def typedRecord : Layout → Record → Bool
  | [], [] => true
  | (e, f) :: lay, (g, v) :: rest => f == g && v.elem == e && typedRecord lay rest
  | _, _ => false

/-- `COMP(1)`, M_SP_NA_1, W = 1 (R194). -/
def layoutMSpNa1 : Layout := [(.siq, .siq)]

/-- `COMP(2)`, M_SP_TA_1, W = 4 (R195). -/
def layoutMSpTa1 : Layout := [(.siq, .siq), (.cp24, .time)]

/-- `COMP(3)`, M_DP_NA_1, W = 1 (R196). -/
def layoutMDpNa1 : Layout := [(.diq, .diq)]

/-- `COMP(4)`, M_DP_TA_1, W = 4 (R197). -/
def layoutMDpTa1 : Layout := [(.diq, .diq), (.cp24, .time)]

/-- `COMP(5)`, M_ST_NA_1, W = 2 (R198). -/
def layoutMStNa1 : Layout := [(.vti, .vti), (.qds, .qds)]

/-- `COMP(6)`, M_ST_TA_1, W = 5 (R199). -/
def layoutMStTa1 : Layout := [(.vti, .vti), (.qds, .qds), (.cp24, .time)]

/-- `COMP(7)`, M_BO_NA_1, W = 5 (R200). -/
def layoutMBoNa1 : Layout := [(.bsi, .bsi), (.qds, .qds)]

/-- `COMP(8)`, M_BO_TA_1, W = 8 (R201). -/
def layoutMBoTa1 : Layout := [(.bsi, .bsi), (.qds, .qds), (.cp24, .time)]

/-- `COMP(9)`, M_ME_NA_1, W = 3 (R202). -/
def layoutMMeNa1 : Layout := [(.nva, .nva), (.qds, .qds)]

/-- `COMP(10)`, M_ME_TA_1, W = 6 (R203). -/
def layoutMMeTa1 : Layout := [(.nva, .nva), (.qds, .qds), (.cp24, .time)]

/-- `COMP(11)`, M_ME_NB_1, W = 3 (R204). -/
def layoutMMeNb1 : Layout := [(.sva, .sva), (.qds, .qds)]

/-- `COMP(12)`, M_ME_TB_1, W = 6 (R205). -/
def layoutMMeTb1 : Layout := [(.sva, .sva), (.qds, .qds), (.cp24, .time)]

/-- `COMP(13)`, M_ME_NC_1, W = 5 (R206). -/
def layoutMMeNc1 : Layout := [(.r32, .r32), (.qds, .qds)]

/-- `COMP(14)`, M_ME_TC_1, W = 8 (R207). -/
def layoutMMeTc1 : Layout := [(.r32, .r32), (.qds, .qds), (.cp24, .time)]

/-- `COMP(15)`, M_IT_NA_1, W = 5 (R208). -/
def layoutMItNa1 : Layout := [(.bcr, .bcr)]

/-- `COMP(16)`, M_IT_TA_1, W = 8 (R209). -/
def layoutMItTa1 : Layout := [(.bcr, .bcr), (.cp24, .time)]

/-- `COMP(17)`, M_EP_TA_1, W = 6 (R210). -/
def layoutMEpTa1 : Layout := [(.sep, .sep), (.cp16, .elapsed), (.cp24, .time)]

/-- `COMP(18)`, M_EP_TB_1, W = 7 (R211). -/
def layoutMEpTb1 : Layout := [(.spe, .spe), (.qdp, .qdp), (.cp16, .duration), (.cp24, .time)]

/-- `COMP(19)`, M_EP_TC_1, W = 7 (R212). -/
def layoutMEpTc1 : Layout := [(.oci, .oci), (.qdp, .qdp), (.cp16, .operating), (.cp24, .time)]

/-- `COMP(20)`, M_PS_NA_1, W = 5 (R213). -/
def layoutMPsNa1 : Layout := [(.scd, .scd), (.qds, .qds)]

/-- `COMP(21)`, M_ME_ND_1, W = 2 (R214). -/
def layoutMMeNd1 : Layout := [(.nva, .nva)]

/-- `COMP(30)`, M_SP_TB_1, W = 8 (R215). -/
def layoutMSpTb1 : Layout := [(.siq, .siq), (.cp56, .time)]

/-- `COMP(31)`, M_DP_TB_1, W = 8 (R216). -/
def layoutMDpTb1 : Layout := [(.diq, .diq), (.cp56, .time)]

/-- `COMP(32)`, M_ST_TB_1, W = 9 (R217). -/
def layoutMStTb1 : Layout := [(.vti, .vti), (.qds, .qds), (.cp56, .time)]

/-- `COMP(33)`, M_BO_TB_1, W = 12 (R218). -/
def layoutMBoTb1 : Layout := [(.bsi, .bsi), (.qds, .qds), (.cp56, .time)]

/-- `COMP(34)`, M_ME_TD_1, W = 10 (R219). -/
def layoutMMeTd1 : Layout := [(.nva, .nva), (.qds, .qds), (.cp56, .time)]

/-- `COMP(35)`, M_ME_TE_1, W = 10 (R220). -/
def layoutMMeTe1 : Layout := [(.sva, .sva), (.qds, .qds), (.cp56, .time)]

/-- `COMP(36)`, M_ME_TF_1, W = 12 (R221). -/
def layoutMMeTf1 : Layout := [(.r32, .r32), (.qds, .qds), (.cp56, .time)]

/-- `COMP(37)`, M_IT_TB_1, W = 12 (R222). -/
def layoutMItTb1 : Layout := [(.bcr, .bcr), (.cp56, .time)]

/-- `COMP(38)`, M_EP_TD_1, W = 10 (R223). -/
def layoutMEpTd1 : Layout := [(.sep, .sep), (.cp16, .elapsed), (.cp56, .time)]

/-- `COMP(39)`, M_EP_TE_1, W = 11 (R224). -/
def layoutMEpTe1 : Layout := [(.spe, .spe), (.qdp, .qdp), (.cp16, .duration), (.cp56, .time)]

/-- `COMP(40)`, M_EP_TF_1, W = 11 (R225). -/
def layoutMEpTf1 : Layout := [(.oci, .oci), (.qdp, .qdp), (.cp16, .operating), (.cp56, .time)]

/-- `COMP(45)`, C_SC_NA_1, W = 1 (R226). -/
def layoutCScNa1 : Layout := [(.sco, .sco)]

/-- `COMP(46)`, C_DC_NA_1, W = 1 (R227). -/
def layoutCDcNa1 : Layout := [(.dco, .dco)]

/-- `COMP(47)`, C_RC_NA_1, W = 1 (R228). -/
def layoutCRcNa1 : Layout := [(.rco, .rco)]

/-- `COMP(48)`, C_SE_NA_1, W = 3 (R229). -/
def layoutCSeNa1 : Layout := [(.nva, .nva), (.qos, .qos)]

/-- `COMP(49)`, C_SE_NB_1, W = 3 (R230). -/
def layoutCSeNb1 : Layout := [(.sva, .sva), (.qos, .qos)]

/-- `COMP(50)`, C_SE_NC_1, W = 5 (R231). -/
def layoutCSeNc1 : Layout := [(.r32, .r32), (.qos, .qos)]

/-- `COMP(51)`, C_BO_NA_1, W = 4 (R232). -/
def layoutCBoNa1 : Layout := [(.bsi, .bsi)]

/-- `COMP(58)`, C_SC_TA_1, W = 8 (R233). -/
def layoutCScTa1 : Layout := [(.sco, .sco), (.cp56, .time)]

/-- `COMP(59)`, C_DC_TA_1, W = 8 (R234). -/
def layoutCDcTa1 : Layout := [(.dco, .dco), (.cp56, .time)]

/-- `COMP(60)`, C_RC_TA_1, W = 8 (R235). -/
def layoutCRcTa1 : Layout := [(.rco, .rco), (.cp56, .time)]

/-- `COMP(61)`, C_SE_TA_1, W = 10 (R236). -/
def layoutCSeTa1 : Layout := [(.nva, .nva), (.qos, .qos), (.cp56, .time)]

/-- `COMP(62)`, C_SE_TB_1, W = 10 (R237). -/
def layoutCSeTb1 : Layout := [(.sva, .sva), (.qos, .qos), (.cp56, .time)]

/-- `COMP(63)`, C_SE_TC_1, W = 12 (R238). -/
def layoutCSeTc1 : Layout := [(.r32, .r32), (.qos, .qos), (.cp56, .time)]

/-- `COMP(64)`, C_BO_TA_1, W = 11 (R239). -/
def layoutCBoTa1 : Layout := [(.bsi, .bsi), (.cp56, .time)]

/-- `COMP(70)`, M_EI_NA_1, W = 1 (R240). -/
def layoutMEiNa1 : Layout := [(.coi, .coi)]

/-- `COMP(100)`, C_IC_NA_1, W = 1 (R241). -/
def layoutCIcNa1 : Layout := [(.qoi, .qoi)]

/-- `COMP(101)`, C_CI_NA_1, W = 1 (R242). -/
def layoutCCiNa1 : Layout := [(.qcc, .qcc)]

/-- `COMP(102)`, C_RD_NA_1, W = 0 (R243). -/
def layoutCRdNa1 : Layout := []

/-- `COMP(103)`, C_CS_NA_1, W = 7 (R244). -/
def layoutCCsNa1 : Layout := [(.cp56, .time)]

/-- `COMP(104)`, C_TS_NA_1, W = 2 (R245). -/
def layoutCTsNa1 : Layout := [(.fbp, .fbp)]

/-- `COMP(105)`, C_RP_NA_1, W = 1 (R246). -/
def layoutCRpNa1 : Layout := [(.qrp, .qrp)]

/-- `COMP(106)`, C_CD_NA_1, W = 2 (R247). -/
def layoutCCdNa1 : Layout := [(.cp16, .delay)]

/-- `COMP(107)`, C_TS_TA_1, W = 9 (R248). -/
def layoutCTsTa1 : Layout := [(.tsc, .tsc), (.cp56, .time)]

/-- `COMP(110)`, P_ME_NA_1, W = 3 (R249). -/
def layoutPMeNa1 : Layout := [(.nva, .nva), (.qpm, .qpm)]

/-- `COMP(111)`, P_ME_NB_1, W = 3 (R250). -/
def layoutPMeNb1 : Layout := [(.sva, .sva), (.qpm, .qpm)]

/-- `COMP(112)`, P_ME_NC_1, W = 5 (R251). -/
def layoutPMeNc1 : Layout := [(.r32, .r32), (.qpm, .qpm)]

/-- `COMP(113)`, P_AC_NA_1, W = 1 (R252). -/
def layoutPAcNa1 : Layout := [(.qpa, .qpa)]

/-- `COMP(120)`, F_FR_NA_1, W = 6 (R253). -/
def layoutFFrNa1 : Layout := [(.nof, .nof), (.lof, .lof), (.frq, .frq)]

/-- `COMP(121)`, F_SR_NA_1, W = 7 (R254). -/
def layoutFSrNa1 : Layout := [(.nof, .nof), (.nos, .nos), (.lof, .lof), (.srq, .srq)]

/-- `COMP(122)`, F_SC_NA_1, W = 4 (R255). -/
def layoutFScNa1 : Layout := [(.nof, .nof), (.nos, .nos), (.scq, .scq)]

/-- `COMP(123)`, F_LS_NA_1, W = 5 (R256). -/
def layoutFLsNa1 : Layout := [(.nof, .nof), (.nos, .nos), (.lsq, .lsq), (.chs, .chs)]

/-- `COMP(124)`, F_AF_NA_1, W = 4 (R257). -/
def layoutFAfNa1 : Layout := [(.nof, .nof), (.nos, .nos), (.afq, .afq)]

/-- `COMP(126)`, F_DR_TA_1, W = 13 (R258). -/
def layoutFDrTa1 : Layout := [(.nof, .nof), (.lof, .lof), (.sof, .sof), (.cp56, .time)]

/-- `COMP(127)`, F_SC_NB_1, W = 16 (R259). -/
def layoutFScNb1 : Layout := [(.nof, .nof), (.cp56, .start), (.cp56, .stop)]

/-- `COMP(t)` for a supported type identifier, none for each of the other 190 values of the byte
(R84, R85, R193, R260). -/
def layoutOf (t : Byte) : Option Layout :=
  match t.toNat with
  | 1 => some layoutMSpNa1
  | 2 => some layoutMSpTa1
  | 3 => some layoutMDpNa1
  | 4 => some layoutMDpTa1
  | 5 => some layoutMStNa1
  | 6 => some layoutMStTa1
  | 7 => some layoutMBoNa1
  | 8 => some layoutMBoTa1
  | 9 => some layoutMMeNa1
  | 10 => some layoutMMeTa1
  | 11 => some layoutMMeNb1
  | 12 => some layoutMMeTb1
  | 13 => some layoutMMeNc1
  | 14 => some layoutMMeTc1
  | 15 => some layoutMItNa1
  | 16 => some layoutMItTa1
  | 17 => some layoutMEpTa1
  | 18 => some layoutMEpTb1
  | 19 => some layoutMEpTc1
  | 20 => some layoutMPsNa1
  | 21 => some layoutMMeNd1
  | 30 => some layoutMSpTb1
  | 31 => some layoutMDpTb1
  | 32 => some layoutMStTb1
  | 33 => some layoutMBoTb1
  | 34 => some layoutMMeTd1
  | 35 => some layoutMMeTe1
  | 36 => some layoutMMeTf1
  | 37 => some layoutMItTb1
  | 38 => some layoutMEpTd1
  | 39 => some layoutMEpTe1
  | 40 => some layoutMEpTf1
  | 45 => some layoutCScNa1
  | 46 => some layoutCDcNa1
  | 47 => some layoutCRcNa1
  | 48 => some layoutCSeNa1
  | 49 => some layoutCSeNb1
  | 50 => some layoutCSeNc1
  | 51 => some layoutCBoNa1
  | 58 => some layoutCScTa1
  | 59 => some layoutCDcTa1
  | 60 => some layoutCRcTa1
  | 61 => some layoutCSeTa1
  | 62 => some layoutCSeTb1
  | 63 => some layoutCSeTc1
  | 64 => some layoutCBoTa1
  | 70 => some layoutMEiNa1
  | 100 => some layoutCIcNa1
  | 101 => some layoutCCiNa1
  | 102 => some layoutCRdNa1
  | 103 => some layoutCCsNa1
  | 104 => some layoutCTsNa1
  | 105 => some layoutCRpNa1
  | 106 => some layoutCCdNa1
  | 107 => some layoutCTsTa1
  | 110 => some layoutPMeNa1
  | 111 => some layoutPMeNb1
  | 112 => some layoutPMeNc1
  | 113 => some layoutPAcNa1
  | 120 => some layoutFFrNa1
  | 121 => some layoutFSrNa1
  | 122 => some layoutFScNa1
  | 123 => some layoutFLsNa1
  | 124 => some layoutFAfNa1
  | 126 => some layoutFDrTa1
  | 127 => some layoutFScNb1
  | _ => none

end Sys2Proof.Machine
end

