-- ==== Sys2Proof/WellFormed.lean ====
section
/-! DEFINITION. What makes an instruction well formed: its operand bytes select its row (30_encoding R72, R76), and
its operand records are values of their types (R47, R48, R191). -/
namespace Sys2Proof
open Sys2Proof.Machine

/-- Whether every object of the list carries a value with exactly the fields of the layout (R48, R191). -/
def typedObjs (lay : Layout) (objs : List InfoObject) : Bool := objs.all fun o => typedRecord lay o.val

/-- Whether an ASDU record's objects carry values of its type. An unsupported type has no value type: every
operation that encodes it raises U1 whatever its values are (R260). Numbers are not checked here: the encoders raise X1
and X2 on those that do not fit. DESIGN CHOICE (log entry 15): so LINK_RX, which encodes nothing, takes a hand-built
ASDU whose n is outside 1..127 or differs from the number of objects (no record of R47), or whose type is unsupported
or whose cause, originator address or common address does not fit, and hands it over as it is. -/
def typedAsdu (a : Asdu) : Bool :=
  match layoutOf a.ti with
  | none => true
  | some lay => typedObjs lay a.objs

/-- The checks of the I row: c0 or byte 2 of the frame slice selects the I format. -/
def wellFormedI : IOp → Bool
  | .apciDec c0 _ _ _ => formatOf c0 == .i
  | .apciEnc _ _ => true
  | .frameDec f => decide (3 ≤ f.length) && formatOf (byteAt f 2) == .i
  | .compose _ _ a => a.all typedAsdu
  | .linkRx _ _ a => typedAsdu a
  | .linkTx a => typedAsdu a

/-- The checks of the S row: c0 or byte 2 of the frame slice selects the S format. -/
def wellFormedS : SOp → Bool
  | .apciDec c0 _ _ _ => formatOf c0 == .s
  | .apciEnc _ => true
  | .frameDec f => decide (3 ≤ f.length) && formatOf (byteAt f 2) == .s
  | .compose _ a => a.all typedAsdu
  | .linkRx _ => true
  | .linkTx => true

/-- The checks of a U row: byte 2 of the frame slice selects the row's action. -/
def wellFormedU (act : UAct) : UOp → Bool
  | .apciDec _ _ _ => true
  | .apciEnc => true
  | .frameDec f => decide (3 ≤ f.length) && formatOf (byteAt f 2) == .u (some act)
  | .compose a => a.all typedAsdu
  | .linkRx => true
  | .linkTx => true

/-- The checks of a type-identifier row: the records given to the encoders are values of the row's type. -/
def wellFormedType (lay : Layout) : TypeOp → Bool
  | .elemDec _ => true
  | .elemEnc v => typedRecord lay v
  | .asduDec _ => true
  | .asduEnc a => typedObjs lay a.objs

/-- Whether an instruction is well formed. -/
def Instr.wellFormed : Instr → Bool
  | .iFormat op => wellFormedI op
  | .sFormat op => wellFormedS op
  | .uStartdtAct op => wellFormedU .startdtAct op
  | .uStartdtCon op => wellFormedU .startdtCon op
  | .uStopdtAct op => wellFormedU .stopdtAct op
  | .uStopdtCon op => wellFormedU .stopdtCon op
  | .uTestfrAct op => wellFormedU .testfrAct op
  | .uTestfrCon op => wellFormedU .testfrCon op
  | .mSpNa1 op => wellFormedType layoutMSpNa1 op
  | .mSpTa1 op => wellFormedType layoutMSpTa1 op
  | .mDpNa1 op => wellFormedType layoutMDpNa1 op
  | .mDpTa1 op => wellFormedType layoutMDpTa1 op
  | .mStNa1 op => wellFormedType layoutMStNa1 op
  | .mStTa1 op => wellFormedType layoutMStTa1 op
  | .mBoNa1 op => wellFormedType layoutMBoNa1 op
  | .mBoTa1 op => wellFormedType layoutMBoTa1 op
  | .mMeNa1 op => wellFormedType layoutMMeNa1 op
  | .mMeTa1 op => wellFormedType layoutMMeTa1 op
  | .mMeNb1 op => wellFormedType layoutMMeNb1 op
  | .mMeTb1 op => wellFormedType layoutMMeTb1 op
  | .mMeNc1 op => wellFormedType layoutMMeNc1 op
  | .mMeTc1 op => wellFormedType layoutMMeTc1 op
  | .mItNa1 op => wellFormedType layoutMItNa1 op
  | .mItTa1 op => wellFormedType layoutMItTa1 op
  | .mEpTa1 op => wellFormedType layoutMEpTa1 op
  | .mEpTb1 op => wellFormedType layoutMEpTb1 op
  | .mEpTc1 op => wellFormedType layoutMEpTc1 op
  | .mPsNa1 op => wellFormedType layoutMPsNa1 op
  | .mMeNd1 op => wellFormedType layoutMMeNd1 op
  | .mSpTb1 op => wellFormedType layoutMSpTb1 op
  | .mDpTb1 op => wellFormedType layoutMDpTb1 op
  | .mStTb1 op => wellFormedType layoutMStTb1 op
  | .mBoTb1 op => wellFormedType layoutMBoTb1 op
  | .mMeTd1 op => wellFormedType layoutMMeTd1 op
  | .mMeTe1 op => wellFormedType layoutMMeTe1 op
  | .mMeTf1 op => wellFormedType layoutMMeTf1 op
  | .mItTb1 op => wellFormedType layoutMItTb1 op
  | .mEpTd1 op => wellFormedType layoutMEpTd1 op
  | .mEpTe1 op => wellFormedType layoutMEpTe1 op
  | .mEpTf1 op => wellFormedType layoutMEpTf1 op
  | .cScNa1 op => wellFormedType layoutCScNa1 op
  | .cDcNa1 op => wellFormedType layoutCDcNa1 op
  | .cRcNa1 op => wellFormedType layoutCRcNa1 op
  | .cSeNa1 op => wellFormedType layoutCSeNa1 op
  | .cSeNb1 op => wellFormedType layoutCSeNb1 op
  | .cSeNc1 op => wellFormedType layoutCSeNc1 op
  | .cBoNa1 op => wellFormedType layoutCBoNa1 op
  | .cScTa1 op => wellFormedType layoutCScTa1 op
  | .cDcTa1 op => wellFormedType layoutCDcTa1 op
  | .cRcTa1 op => wellFormedType layoutCRcTa1 op
  | .cSeTa1 op => wellFormedType layoutCSeTa1 op
  | .cSeTb1 op => wellFormedType layoutCSeTb1 op
  | .cSeTc1 op => wellFormedType layoutCSeTc1 op
  | .cBoTa1 op => wellFormedType layoutCBoTa1 op
  | .mEiNa1 op => wellFormedType layoutMEiNa1 op
  | .cIcNa1 op => wellFormedType layoutCIcNa1 op
  | .cCiNa1 op => wellFormedType layoutCCiNa1 op
  | .cRdNa1 op => wellFormedType layoutCRdNa1 op
  | .cCsNa1 op => wellFormedType layoutCCsNa1 op
  | .cTsNa1 op => wellFormedType layoutCTsNa1 op
  | .cRpNa1 op => wellFormedType layoutCRpNa1 op
  | .cCdNa1 op => wellFormedType layoutCCdNa1 op
  | .cTsTa1 op => wellFormedType layoutCTsTa1 op
  | .pMeNa1 op => wellFormedType layoutPMeNa1 op
  | .pMeNb1 op => wellFormedType layoutPMeNb1 op
  | .pMeNc1 op => wellFormedType layoutPMeNc1 op
  | .pAcNa1 op => wellFormedType layoutPAcNa1 op
  | .fFrNa1 op => wellFormedType layoutFFrNa1 op
  | .fSrNa1 op => wellFormedType layoutFSrNa1 op
  | .fScNa1 op => wellFormedType layoutFScNa1 op
  | .fLsNa1 op => wellFormedType layoutFLsNa1 op
  | .fAfNa1 op => wellFormedType layoutFAfNa1 op
  | .fDrTa1 op => wellFormedType layoutFDrTa1 op
  | .fScNb1 op => wellFormedType layoutFScNb1 op

end Sys2Proof
end

