-- ==== Sys2Proof/Decode.lean ====
section
/-! DEFINITION. The decoder: from an operation with its operand bytes or record to the instruction of the opcode-table
row it selects (30_encoding R72, R76, R84, R94), and the encoder back. -/
namespace Sys2Proof
open Sys2Proof.Machine

/-- Why an operation selects no instruction. -/
inductive Reject where
  /-- the selecting byte is an unsupported type identifier (R85) -/
  | unknownTypeId (t : Byte)
  /-- the control byte has format bits 11 and not exactly one action bit (R89) -/
  | badUAction (c0 : Byte)
  /-- the span is too short, or an APCI span is not four bytes, so that no byte selects -/
  | noSelector
  /-- an APDU with the wrong ASDU presence, no record of R48 -/
  | apduShape
  /-- the operation depends on no row: SPLIT, FEED, TRANSPORT_CLOSED, RESET -/
  | noRow
deriving DecidableEq, Repr

/-- The row of a type identifier (R84), none for the 190 unsupported values (R85). -/
def typeRow (t : Byte) : Option (TypeOp → Instr) :=
  match t.toNat with
  | 1 => some .mSpNa1
  | 2 => some .mSpTa1
  | 3 => some .mDpNa1
  | 4 => some .mDpTa1
  | 5 => some .mStNa1
  | 6 => some .mStTa1
  | 7 => some .mBoNa1
  | 8 => some .mBoTa1
  | 9 => some .mMeNa1
  | 10 => some .mMeTa1
  | 11 => some .mMeNb1
  | 12 => some .mMeTb1
  | 13 => some .mMeNc1
  | 14 => some .mMeTc1
  | 15 => some .mItNa1
  | 16 => some .mItTa1
  | 17 => some .mEpTa1
  | 18 => some .mEpTb1
  | 19 => some .mEpTc1
  | 20 => some .mPsNa1
  | 21 => some .mMeNd1
  | 30 => some .mSpTb1
  | 31 => some .mDpTb1
  | 32 => some .mStTb1
  | 33 => some .mBoTb1
  | 34 => some .mMeTd1
  | 35 => some .mMeTe1
  | 36 => some .mMeTf1
  | 37 => some .mItTb1
  | 38 => some .mEpTd1
  | 39 => some .mEpTe1
  | 40 => some .mEpTf1
  | 45 => some .cScNa1
  | 46 => some .cDcNa1
  | 47 => some .cRcNa1
  | 48 => some .cSeNa1
  | 49 => some .cSeNb1
  | 50 => some .cSeNc1
  | 51 => some .cBoNa1
  | 58 => some .cScTa1
  | 59 => some .cDcTa1
  | 60 => some .cRcTa1
  | 61 => some .cSeTa1
  | 62 => some .cSeTb1
  | 63 => some .cSeTc1
  | 64 => some .cBoTa1
  | 70 => some .mEiNa1
  | 100 => some .cIcNa1
  | 101 => some .cCiNa1
  | 102 => some .cRdNa1
  | 103 => some .cCsNa1
  | 104 => some .cTsNa1
  | 105 => some .cRpNa1
  | 106 => some .cCdNa1
  | 107 => some .cTsTa1
  | 110 => some .pMeNa1
  | 111 => some .pMeNb1
  | 112 => some .pMeNc1
  | 113 => some .pAcNa1
  | 120 => some .fFrNa1
  | 121 => some .fSrNa1
  | 122 => some .fScNa1
  | 123 => some .fLsNa1
  | 124 => some .fAfNa1
  | 126 => some .fDrTa1
  | 127 => some .fScNb1
  | _ => none

/-- The row of a U action (R76). -/
def uRow : UAct → UOp → Instr
  | .startdtAct => .uStartdtAct
  | .startdtCon => .uStartdtCon
  | .stopdtAct => .uStopdtAct
  | .stopdtCon => .uStopdtCon
  | .testfrAct => .uTestfrAct
  | .testfrCon => .uTestfrCon

/-- The instruction of the type row t with the operation op. -/
def onType (t : Byte) (op : TypeOp) : Except Reject Instr :=
  match typeRow t with
  | some mk => .ok (mk op)
  | none => .error (.unknownTypeId t)

/-- The instruction of the row that control byte c0 selects (R72, R89). -/
def onControl (c0 : Byte) (iop : IOp) (sop : SOp) (uop : UOp) : Except Reject Instr :=
  match formatOf c0 with
  | .i => .ok (.iFormat iop)
  | .s => .ok (.sFormat sop)
  | .u (some act) => .ok (uRow act uop)
  | .u none => .error (.badUAction c0)

/-- The decoder, total on every request and so on any operand bytes. -/
def decode : Request → Except Reject Instr
  | .elemDec t S => onType t (.elemDec S)
  | .elemEnc t v => onType t (.elemEnc v)
  | .asduDec [] => .error .noSelector
  | .asduDec (t :: rest) => onType t (.asduDec rest)
  | .asduEnc a => onType a.ti (.asduEnc a.toAsduBody)
  | .apciDec [c0, c1, c2, c3] => onControl c0 (.apciDec c0 c1 c2 c3) (.apciDec c0 c1 c2 c3) (.apciDec c1 c2 c3)
  | .apciDec _ => .error .noSelector
  | .apciEnc (.i ns nr) => .ok (.iFormat (.apciEnc ns nr))
  | .apciEnc (.s nr) => .ok (.sFormat (.apciEnc nr))
  | .apciEnc (.u act) => .ok (uRow act .apciEnc)
  | .frameDec f =>
    if f.length < 3 then .error .noSelector else onControl (byteAt f 2) (.frameDec f) (.frameDec f) (.frameDec f)
  | .compose { apci := .i ns nr, asdu := a } => .ok (.iFormat (.compose ns nr a))
  | .compose { apci := .s nr, asdu := a } => .ok (.sFormat (.compose nr a))
  | .compose { apci := .u act, asdu := a } => .ok (uRow act (.compose a))
  | .linkRx { apci := .i ns nr, asdu := some a } => .ok (.iFormat (.linkRx ns nr a))
  | .linkRx { apci := .s nr, asdu := none } => .ok (.sFormat (.linkRx nr))
  | .linkRx { apci := .u act, asdu := none } => .ok (uRow act .linkRx)
  | .linkRx _ => .error .apduShape
  | .linkTxI a => .ok (.iFormat (.linkTx a))
  | .linkTxS => .ok (.sFormat .linkTx)
  | .linkTxU act => .ok (uRow act .linkTx)
  | .split _ => .error .noRow
  | .feed _ => .error .noRow
  | .transportClosed => .error .noRow
  | .reset _ => .error .noRow

/-! ### The encoder -/

/-- The operation and operands that a type row's instruction stands for. -/
def encodeType (t : Byte) : TypeOp → Request
  | .elemDec S => .elemDec t S
  | .elemEnc v => .elemEnc t v
  | .asduDec rest => .asduDec (t :: rest)
  | .asduEnc a => .asduEnc { a with ti := t }

/-- The operation and operands that an I instruction stands for. -/
def encodeI : IOp → Request
  | .apciDec c0 c1 c2 c3 => .apciDec [c0, c1, c2, c3]
  | .apciEnc ns nr => .apciEnc (.i ns nr)
  | .frameDec f => .frameDec f
  | .compose ns nr a => .compose { apci := .i ns nr, asdu := a }
  | .linkRx ns nr a => .linkRx { apci := .i ns nr, asdu := some a }
  | .linkTx a => .linkTxI a

/-- The operation and operands that an S instruction stands for. -/
def encodeS : SOp → Request
  | .apciDec c0 c1 c2 c3 => .apciDec [c0, c1, c2, c3]
  | .apciEnc nr => .apciEnc (.s nr)
  | .frameDec f => .frameDec f
  | .compose nr a => .compose { apci := .s nr, asdu := a }
  | .linkRx nr => .linkRx { apci := .s nr, asdu := none }
  | .linkTx => .linkTxS

/-- The operation and operands that a U instruction stands for; c0 is the row's code (R76). -/
def encodeU (act : UAct) : UOp → Request
  | .apciDec c1 c2 c3 => .apciDec [uCode act, c1, c2, c3]
  | .apciEnc => .apciEnc (.u act)
  | .frameDec f => .frameDec f
  | .compose a => .compose { apci := .u act, asdu := a }
  | .linkRx => .linkRx { apci := .u act, asdu := none }
  | .linkTx => .linkTxU act

/-- The encoder: the request whose bytes and record are those of the instruction (R76, R84). -/
def encode : Instr → Request
  | .iFormat op => encodeI op
  | .sFormat op => encodeS op
  | .uStartdtAct op => encodeU .startdtAct op
  | .uStartdtCon op => encodeU .startdtCon op
  | .uStopdtAct op => encodeU .stopdtAct op
  | .uStopdtCon op => encodeU .stopdtCon op
  | .uTestfrAct op => encodeU .testfrAct op
  | .uTestfrCon op => encodeU .testfrCon op
  | .mSpNa1 op => encodeType 1 op
  | .mSpTa1 op => encodeType 2 op
  | .mDpNa1 op => encodeType 3 op
  | .mDpTa1 op => encodeType 4 op
  | .mStNa1 op => encodeType 5 op
  | .mStTa1 op => encodeType 6 op
  | .mBoNa1 op => encodeType 7 op
  | .mBoTa1 op => encodeType 8 op
  | .mMeNa1 op => encodeType 9 op
  | .mMeTa1 op => encodeType 10 op
  | .mMeNb1 op => encodeType 11 op
  | .mMeTb1 op => encodeType 12 op
  | .mMeNc1 op => encodeType 13 op
  | .mMeTc1 op => encodeType 14 op
  | .mItNa1 op => encodeType 15 op
  | .mItTa1 op => encodeType 16 op
  | .mEpTa1 op => encodeType 17 op
  | .mEpTb1 op => encodeType 18 op
  | .mEpTc1 op => encodeType 19 op
  | .mPsNa1 op => encodeType 20 op
  | .mMeNd1 op => encodeType 21 op
  | .mSpTb1 op => encodeType 30 op
  | .mDpTb1 op => encodeType 31 op
  | .mStTb1 op => encodeType 32 op
  | .mBoTb1 op => encodeType 33 op
  | .mMeTd1 op => encodeType 34 op
  | .mMeTe1 op => encodeType 35 op
  | .mMeTf1 op => encodeType 36 op
  | .mItTb1 op => encodeType 37 op
  | .mEpTd1 op => encodeType 38 op
  | .mEpTe1 op => encodeType 39 op
  | .mEpTf1 op => encodeType 40 op
  | .cScNa1 op => encodeType 45 op
  | .cDcNa1 op => encodeType 46 op
  | .cRcNa1 op => encodeType 47 op
  | .cSeNa1 op => encodeType 48 op
  | .cSeNb1 op => encodeType 49 op
  | .cSeNc1 op => encodeType 50 op
  | .cBoNa1 op => encodeType 51 op
  | .cScTa1 op => encodeType 58 op
  | .cDcTa1 op => encodeType 59 op
  | .cRcTa1 op => encodeType 60 op
  | .cSeTa1 op => encodeType 61 op
  | .cSeTb1 op => encodeType 62 op
  | .cSeTc1 op => encodeType 63 op
  | .cBoTa1 op => encodeType 64 op
  | .mEiNa1 op => encodeType 70 op
  | .cIcNa1 op => encodeType 100 op
  | .cCiNa1 op => encodeType 101 op
  | .cRdNa1 op => encodeType 102 op
  | .cCsNa1 op => encodeType 103 op
  | .cTsNa1 op => encodeType 104 op
  | .cRpNa1 op => encodeType 105 op
  | .cCdNa1 op => encodeType 106 op
  | .cTsTa1 op => encodeType 107 op
  | .pMeNa1 op => encodeType 110 op
  | .pMeNb1 op => encodeType 111 op
  | .pMeNc1 op => encodeType 112 op
  | .pAcNa1 op => encodeType 113 op
  | .fFrNa1 op => encodeType 120 op
  | .fSrNa1 op => encodeType 121 op
  | .fScNa1 op => encodeType 122 op
  | .fLsNa1 op => encodeType 123 op
  | .fAfNa1 op => encodeType 124 op
  | .fDrTa1 op => encodeType 126 op
  | .fScNb1 op => encodeType 127 op

/-! ### One word of the opcode table -/

/-- The operation that a word of nbits bits of the opcode table stands for: its first byte is read as a supported
type identifier (ELEM_DEC of the type, its element value the word's further bytes and zeros), else as a control
byte (APCI_DEC, c1 to c3 the word's further bytes and zeros). DESIGN CHOICE (log entry 5): the table's two name
spaces share one byte, and five rows have a code that is also a type identifier. -/
def tableRequest (nbits w : Nat) : Request :=
  let B := leBytes ((nbits + 7) / 8) w
  match layoutOf (byteAt B 0) with
  | some lay => .elemDec (byteAt B 0) ((B.drop 1 ++ List.replicate 16 0).take (layoutWidth lay))
  | none => .apciDec ((B ++ List.replicate 4 0).take 4)

/-- The instruction the decoder reads from a word of the opcode table, every bit above nbits 0. -/
def decodeTableWord (nbits w : Nat) : Option Instr :=
  match decode (tableRequest nbits w) with
  | .ok i => some i
  | .error _ => none

end Sys2Proof
end

