-- ==== Sys2Proof/Machine/Flags.lean ====
section
/-! DEFINITION. The quality flags BL, SB, NT, IV shared by five elements (40_elem_status R103). The block has no
flags in its state (10_state R40): these are fields of decoded values. -/
namespace Sys2Proof.Machine

/-- `Q4(b)` of R103. -/
def q4Dec (b : Nat) : Q4 := { bl := flag b 4, sb := flag b 5, nt := flag b 6, iv := flag b 7 }

/-- `q4(q)` of R103. -/
def q4Enc (q : Q4) : Nat := putFlag 4 q.bl ||| putFlag 5 q.sb ||| putFlag 6 q.nt ||| putFlag 7 q.iv

end Sys2Proof.Machine
end

