-- ==== Sys2Proof/Machine/Operands.lean ====
section
/-! DEFINITION. The 40 element codecs, every operand form of the wire (40_elem_status to 44_elem_time), under the
common contract R102: a decoder raises M11 on a span of another length and is total on every pattern of its width;
an encoder checks each field against its width, in the order the rule lists the fields, and writes reserved bits 0. -/
namespace Sys2Proof.Machine

/-- M11 of the element codec e on the span S (R57, R102). -/
def spanLength (e : Elem) (S : Span) : Err := malformed (.m11 (.element e) S.length)

/-! ### Status and quality elements (40_elem_status) -/

/-- `DEC_QDS` (R104). -/
def qdsDec : Span → Except Err QDS
  | [b] => .ok { q4Dec b.toNat with ov := flag b.toNat 0 }
  | S => .error (spanLength .qds S)

/-- `ENC_QDS` (R104). -/
def qdsEnc (v : QDS) : Except Err Span :=
  .ok [byte (putFlag 0 v.ov ||| q4Enc v.toQ4)]

/-- `DEC_SIQ` (R105). -/
def siqDec : Span → Except Err SIQ
  | [b] => .ok { q4Dec b.toNat with spi := flag b.toNat 0 }
  | S => .error (spanLength .siq S)

/-- `ENC_SIQ` (R105). -/
def siqEnc (v : SIQ) : Except Err Span :=
  .ok [byte (putFlag 0 v.spi ||| q4Enc v.toQ4)]

/-- `DEC_DIQ` (R107). -/
def diqDec : Span → Except Err DIQ
  | [b] => .ok { q4Dec b.toNat with dpi := field b.toNat 0 2 }
  | S => .error (spanLength .diq S)

/-- `ENC_DIQ` (R107). -/
def diqEnc (v : DIQ) : Except Err Span :=
  if 2 ^ 2 ≤ v.dpi then .error (fieldRange .diq .dpi) else
  .ok [byte (put 0 2 v.dpi ||| q4Enc v.toQ4)]

/-- `DEC_VTI` (R109). -/
def vtiDec : Span → Except Err VTI
  | [b] => .ok { value := sext 7 (field b.toNat 0 7), t := flag b.toNat 7 }
  | S => .error (spanLength .vti S)

/-- `ENC_VTI` (R109). -/
def vtiEnc (v : VTI) : Except Err Span :=
  if ¬ fitsSigned 7 v.value then .error (fieldRange .vti .value) else
  .ok [byte (put 0 7 (wrap 7 v.value) ||| putFlag 7 v.t)]

/-- `DEC_BSI` (R110): the little-endian number of 4 bytes. -/
def bsiDec : Span → Except Err Nat
  | [b0, b1, b2, b3] => .ok (leNat [b0, b1, b2, b3])
  | S => .error (spanLength .bsi S)

/-- `ENC_BSI` (R110). -/
def bsiEnc (v : Nat) : Except Err Span :=
  if 2 ^ 32 ≤ v then .error (fieldRange .bsi .value) else .ok (leBytes 4 v)

/-- `DEC_SCD` (R112). -/
def scdDec : Span → Except Err SCD
  | [b0, b1, b2, b3] => .ok { st := leNat [b0, b1], cd := leNat [b2, b3] }
  | S => .error (spanLength .scd S)

/-- `ENC_SCD` (R112). -/
def scdEnc (v : SCD) : Except Err Span :=
  if 2 ^ 16 ≤ v.st then .error (fieldRange .scd .st) else
  if 2 ^ 16 ≤ v.cd then .error (fieldRange .scd .cd) else
  .ok (leBytes 2 v.st ++ leBytes 2 v.cd)

/-- `DEC_QDP` (R113). -/
def qdpDec : Span → Except Err QDP
  | [b] => .ok { q4Dec b.toNat with ei := flag b.toNat 3 }
  | S => .error (spanLength .qdp S)

/-- `ENC_QDP` (R113). -/
def qdpEnc (v : QDP) : Except Err Span :=
  .ok [byte (putFlag 3 v.ei ||| q4Enc v.toQ4)]

/-- `DEC_SEP` (R114). -/
def sepDec : Span → Except Err SEP
  | [b] => .ok { q4Dec b.toNat with es := field b.toNat 0 2, ei := flag b.toNat 3 }
  | S => .error (spanLength .sep S)

/-- `ENC_SEP` (R114). -/
def sepEnc (v : SEP) : Except Err Span :=
  if 2 ^ 2 ≤ v.es then .error (fieldRange .sep .es) else
  .ok [byte (put 0 2 v.es ||| putFlag 3 v.ei ||| q4Enc v.toQ4)]

/-- `DEC_SPE` (R115). -/
def speDec : Span → Except Err SPE
  | [b] => .ok
    { gs := flag b.toNat 0, sl1 := flag b.toNat 1, sl2 := flag b.toNat 2, sl3 := flag b.toNat 3,
      sie := flag b.toNat 4, srd := flag b.toNat 5 }
  | S => .error (spanLength .spe S)

/-- `ENC_SPE` (R115). -/
def speEnc (v : SPE) : Except Err Span :=
  .ok [byte (putFlag 0 v.gs ||| putFlag 1 v.sl1 ||| putFlag 2 v.sl2 ||| putFlag 3 v.sl3 ||| putFlag 4 v.sie ||| putFlag 5 v.srd)]

/-- `DEC_OCI` (R116). -/
def ociDec : Span → Except Err OCI
  | [b] => .ok { gc := flag b.toNat 0, cl1 := flag b.toNat 1, cl2 := flag b.toNat 2, cl3 := flag b.toNat 3 }
  | S => .error (spanLength .oci S)

/-- `ENC_OCI` (R116). -/
def ociEnc (v : OCI) : Except Err Span :=
  .ok [byte (putFlag 0 v.gc ||| putFlag 1 v.cl1 ||| putFlag 2 v.cl2 ||| putFlag 3 v.cl3)]

/-! ### Measured values and counters (41_elem_values) -/

/-- `DEC_NVA` (R130): big-endian two's complement. -/
def nvaDec : Span → Except Err Int
  | [b0, b1] => .ok (sext 16 (be16 b0 b1))
  | S => .error (spanLength .nva S)

/-- `ENC_NVA` (R130). -/
def nvaEnc (v : Int) : Except Err Span :=
  if ¬ fitsSigned 16 v then .error (fieldRange .nva .raw) else .ok (be16Bytes (wrap 16 v))

/-- `DEC_SVA` (R132): big-endian two's complement. -/
def svaDec : Span → Except Err Int
  | [b0, b1] => .ok (sext 16 (be16 b0 b1))
  | S => .error (spanLength .sva S)

/-- `ENC_SVA` (R132). -/
def svaEnc (v : Int) : Except Err Span :=
  if ¬ fitsSigned 16 v then .error (fieldRange .sva .value) else .ok (be16Bytes (wrap 16 v))

/-- `DEC_R32` (R134): the little-endian number of 4 bytes. -/
def r32Dec : Span → Except Err Nat
  | [b0, b1, b2, b3] => .ok (leNat [b0, b1, b2, b3])
  | S => .error (spanLength .r32 S)

/-- `ENC_R32` (R134). -/
def r32Enc (v : Nat) : Except Err Span :=
  if 2 ^ 32 ≤ v then .error (fieldRange .r32 .value) else .ok (leBytes 4 v)

/-- `DEC_BCR` (R136). -/
def bcrDec : Span → Except Err BCR
  | [b0, b1, b2, b3, b] =>
    .ok { counter := sext 32 (leNat [b0, b1, b2, b3]), sq := field b.toNat 0 5, cy := flag b.toNat 5,
          ca := flag b.toNat 6, iv := flag b.toNat 7 }
  | S => .error (spanLength .bcr S)

/-- `ENC_BCR` (R136). -/
def bcrEnc (v : BCR) : Except Err Span :=
  if ¬ fitsSigned 32 v.counter then .error (fieldRange .bcr .counter) else
  if 2 ^ 5 ≤ v.sq then .error (fieldRange .bcr .sq) else
  .ok (leBytes 4 (wrap 32 v.counter) ++ [byte (put 0 5 v.sq ||| putFlag 5 v.cy ||| putFlag 6 v.ca ||| putFlag 7 v.iv)])

/-- The exact number a decoded NVA denotes, `raw / 2^15` (R138). No operation computes it. -/
def nvaValue (raw : Int) : Rat := (raw : Rat) / 2 ^ 15

/-! ### Command and system qualifiers (42_elem_commands) -/

/-- `DEC_SCO` (R141). -/
def scoDec : Span → Except Err SCO
  | [b] => .ok { scs := flag b.toNat 0, qu := field b.toNat 2 5, se := flag b.toNat 7 }
  | S => .error (spanLength .sco S)

/-- `ENC_SCO` (R141). -/
def scoEnc (v : SCO) : Except Err Span :=
  if 2 ^ 5 ≤ v.qu then .error (fieldRange .sco .qu) else
  .ok [byte (putFlag 0 v.scs ||| put 2 5 v.qu ||| putFlag 7 v.se)]

/-- `DEC_DCO` (R142). -/
def dcoDec : Span → Except Err DCO
  | [b] => .ok { dcs := field b.toNat 0 2, qu := field b.toNat 2 5, se := flag b.toNat 7 }
  | S => .error (spanLength .dco S)

/-- `ENC_DCO` (R142). -/
def dcoEnc (v : DCO) : Except Err Span :=
  if 2 ^ 2 ≤ v.dcs then .error (fieldRange .dco .dcs) else
  if 2 ^ 5 ≤ v.qu then .error (fieldRange .dco .qu) else
  .ok [byte (put 0 2 v.dcs ||| put 2 5 v.qu ||| putFlag 7 v.se)]

/-- `DEC_RCO` (R143). -/
def rcoDec : Span → Except Err RCO
  | [b] => .ok { rcs := field b.toNat 0 2, qu := field b.toNat 2 5, se := flag b.toNat 7 }
  | S => .error (spanLength .rco S)

/-- `ENC_RCO` (R143). -/
def rcoEnc (v : RCO) : Except Err Span :=
  if 2 ^ 2 ≤ v.rcs then .error (fieldRange .rco .rcs) else
  if 2 ^ 5 ≤ v.qu then .error (fieldRange .rco .qu) else
  .ok [byte (put 0 2 v.rcs ||| put 2 5 v.qu ||| putFlag 7 v.se)]

/-- `DEC_QOS` (R144). -/
def qosDec : Span → Except Err QOS
  | [b] => .ok { ql := field b.toNat 0 7, se := flag b.toNat 7 }
  | S => .error (spanLength .qos S)

/-- `ENC_QOS` (R144). -/
def qosEnc (v : QOS) : Except Err Span :=
  if 2 ^ 7 ≤ v.ql then .error (fieldRange .qos .ql) else
  .ok [byte (put 0 7 v.ql ||| putFlag 7 v.se)]

/-- `DEC_QOI` (R145): the whole byte. -/
def qoiDec : Span → Except Err Nat
  | [b] => .ok b.toNat
  | S => .error (spanLength .qoi S)

/-- `ENC_QOI` (R145). -/
def qoiEnc (v : Nat) : Except Err Span :=
  if 2 ^ 8 ≤ v then .error (fieldRange .qoi .value) else .ok [byte v]

/-- `DEC_QCC` (R146). -/
def qccDec : Span → Except Err QCC
  | [b] => .ok { rqt := field b.toNat 0 6, frz := field b.toNat 6 2 }
  | S => .error (spanLength .qcc S)

/-- `ENC_QCC` (R146). -/
def qccEnc (v : QCC) : Except Err Span :=
  if 2 ^ 6 ≤ v.rqt then .error (fieldRange .qcc .rqt) else
  if 2 ^ 2 ≤ v.frz then .error (fieldRange .qcc .frz) else
  .ok [byte (put 0 6 v.rqt ||| put 6 2 v.frz)]

/-- `DEC_QPM` (R147). -/
def qpmDec : Span → Except Err QPM
  | [b] => .ok { kpa := field b.toNat 0 6, lpc := flag b.toNat 6, pop := flag b.toNat 7 }
  | S => .error (spanLength .qpm S)

/-- `ENC_QPM` (R147). -/
def qpmEnc (v : QPM) : Except Err Span :=
  if 2 ^ 6 ≤ v.kpa then .error (fieldRange .qpm .kpa) else
  .ok [byte (put 0 6 v.kpa ||| putFlag 6 v.lpc ||| putFlag 7 v.pop)]

/-- `DEC_QPA` (R148): the whole byte. -/
def qpaDec : Span → Except Err Nat
  | [b] => .ok b.toNat
  | S => .error (spanLength .qpa S)

/-- `ENC_QPA` (R148). -/
def qpaEnc (v : Nat) : Except Err Span :=
  if 2 ^ 8 ≤ v then .error (fieldRange .qpa .value) else .ok [byte v]

/-- `DEC_QRP` (R149): the whole byte. -/
def qrpDec : Span → Except Err Nat
  | [b] => .ok b.toNat
  | S => .error (spanLength .qrp S)

/-- `ENC_QRP` (R149). -/
def qrpEnc (v : Nat) : Except Err Span :=
  if 2 ^ 8 ≤ v then .error (fieldRange .qrp .value) else .ok [byte v]

/-- `DEC_COI` (R150). -/
def coiDec : Span → Except Err COI
  | [b] => .ok { cause := field b.toNat 0 7, bs1 := flag b.toNat 7 }
  | S => .error (spanLength .coi S)

/-- `ENC_COI` (R150). -/
def coiEnc (v : COI) : Except Err Span :=
  if 2 ^ 7 ≤ v.cause then .error (fieldRange .coi .cause) else
  .ok [byte (put 0 7 v.cause ||| putFlag 7 v.bs1)]

/-- `DEC_FBP` (R151): the little-endian number of 2 bytes. -/
def fbpDec : Span → Except Err Nat
  | [b0, b1] => .ok (leNat [b0, b1])
  | S => .error (spanLength .fbp S)

/-- `ENC_FBP` (R151). -/
def fbpEnc (v : Nat) : Except Err Span :=
  if 2 ^ 16 ≤ v then .error (fieldRange .fbp .value) else .ok (leBytes 2 v)

/-- `DEC_TSC` (R152): the little-endian number of 2 bytes. -/
def tscDec : Span → Except Err Nat
  | [b0, b1] => .ok (leNat [b0, b1])
  | S => .error (spanLength .tsc S)

/-- `ENC_TSC` (R152). -/
def tscEnc (v : Nat) : Except Err Span :=
  if 2 ^ 16 ≤ v then .error (fieldRange .tsc .value) else .ok (leBytes 2 v)

/-! ### File-transfer elements (43_elem_file) -/

/-- `DEC_NOF` (R160): the little-endian number of 2 bytes. -/
def nofDec : Span → Except Err Nat
  | [b0, b1] => .ok (leNat [b0, b1])
  | S => .error (spanLength .nof S)

/-- `ENC_NOF` (R160). -/
def nofEnc (v : Nat) : Except Err Span :=
  if 2 ^ 16 ≤ v then .error (fieldRange .nof .value) else .ok (leBytes 2 v)

/-- `DEC_NOS` (R161): the whole byte. -/
def nosDec : Span → Except Err Nat
  | [b] => .ok b.toNat
  | S => .error (spanLength .nos S)

/-- `ENC_NOS` (R161). -/
def nosEnc (v : Nat) : Except Err Span :=
  if 2 ^ 8 ≤ v then .error (fieldRange .nos .value) else .ok [byte v]

/-- `DEC_LOF` (R162): the little-endian number of 3 bytes. -/
def lofDec : Span → Except Err Nat
  | [b0, b1, b2] => .ok (leNat [b0, b1, b2])
  | S => .error (spanLength .lof S)

/-- `ENC_LOF` (R162). -/
def lofEnc (v : Nat) : Except Err Span :=
  if 2 ^ 24 ≤ v then .error (fieldRange .lof .value) else .ok (leBytes 3 v)

/-- `DEC_LOS` (R163): the whole byte. -/
def losDec : Span → Except Err Nat
  | [b] => .ok b.toNat
  | S => .error (spanLength .los S)

/-- `ENC_LOS` (R163). -/
def losEnc (v : Nat) : Except Err Span :=
  if 2 ^ 8 ≤ v then .error (fieldRange .los .value) else .ok [byte v]

/-- `DEC_CHS` (R164): the whole byte. -/
def chsDec : Span → Except Err Nat
  | [b] => .ok b.toNat
  | S => .error (spanLength .chs S)

/-- `ENC_CHS` (R164). -/
def chsEnc (v : Nat) : Except Err Span :=
  if 2 ^ 8 ≤ v then .error (fieldRange .chs .value) else .ok [byte v]

/-- `DEC_FRQ` (R165). -/
def frqDec : Span → Except Err FRQ
  | [b] => .ok { code := field b.toNat 0 7, neg := flag b.toNat 7 }
  | S => .error (spanLength .frq S)

/-- `ENC_FRQ` (R165). -/
def frqEnc (v : FRQ) : Except Err Span :=
  if 2 ^ 7 ≤ v.code then .error (fieldRange .frq .code) else
  .ok [byte (put 0 7 v.code ||| putFlag 7 v.neg)]

/-- `DEC_SRQ` (R166). -/
def srqDec : Span → Except Err SRQ
  | [b] => .ok { code := field b.toNat 0 7, notReady := flag b.toNat 7 }
  | S => .error (spanLength .srq S)

/-- `ENC_SRQ` (R166). -/
def srqEnc (v : SRQ) : Except Err Span :=
  if 2 ^ 7 ≤ v.code then .error (fieldRange .srq .code) else
  .ok [byte (put 0 7 v.code ||| putFlag 7 v.notReady)]

/-- `DEC_SCQ` (R167). -/
def scqDec : Span → Except Err SCQ
  | [b] => .ok { code := field b.toNat 0 4, err := field b.toNat 4 4 }
  | S => .error (spanLength .scq S)

/-- `ENC_SCQ` (R167). -/
def scqEnc (v : SCQ) : Except Err Span :=
  if 2 ^ 4 ≤ v.code then .error (fieldRange .scq .code) else
  if 2 ^ 4 ≤ v.err then .error (fieldRange .scq .err) else
  .ok [byte (put 0 4 v.code ||| put 4 4 v.err)]

/-- `DEC_LSQ` (R168): the whole byte. -/
def lsqDec : Span → Except Err Nat
  | [b] => .ok b.toNat
  | S => .error (spanLength .lsq S)

/-- `ENC_LSQ` (R168). -/
def lsqEnc (v : Nat) : Except Err Span :=
  if 2 ^ 8 ≤ v then .error (fieldRange .lsq .value) else .ok [byte v]

/-- `DEC_AFQ` (R169). -/
def afqDec : Span → Except Err AFQ
  | [b] => .ok { code := field b.toNat 0 4, err := field b.toNat 4 4 }
  | S => .error (spanLength .afq S)

/-- `ENC_AFQ` (R169). -/
def afqEnc (v : AFQ) : Except Err Span :=
  if 2 ^ 4 ≤ v.code then .error (fieldRange .afq .code) else
  if 2 ^ 4 ≤ v.err then .error (fieldRange .afq .err) else
  .ok [byte (put 0 4 v.code ||| put 4 4 v.err)]

/-- `DEC_SOF` (R170). -/
def sofDec : Span → Except Err SOF
  | [b] => .ok { status := field b.toNat 0 5, lfd := flag b.toNat 5, forDir := flag b.toNat 6, fa := flag b.toNat 7 }
  | S => .error (spanLength .sof S)

/-- `ENC_SOF` (R170). -/
def sofEnc (v : SOF) : Except Err Span :=
  if 2 ^ 5 ≤ v.status then .error (fieldRange .sof .status) else
  .ok [byte (put 0 5 v.status ||| putFlag 5 v.lfd ||| putFlag 6 v.forDir ||| putFlag 7 v.fa)]

/-! ### Time tags (44_elem_time) -/

/-- `DEC_CP16` (R180). -/
def cp16Dec : Span → Except Err CP16
  | [b0, b1] => .ok { ms := leNat [b0, b1] }
  | S => .error (spanLength .cp16 S)

/-- `ENC_CP16` (R180). -/
def cp16Enc (v : CP16) : Except Err Span :=
  if 2 ^ 16 ≤ v.ms then .error (fieldRange .cp16 .ms) else .ok (leBytes 2 v.ms)

/-- The fields of CP24Time2a in bytes 0 to 2 (R182). -/
def cp24Of (b0 b1 b : Byte) : CP24 :=
  { ms := leNat [b0, b1], min := field b.toNat 0 6, iv := flag b.toNat 7 }

/-- `DEC_CP24` (R182). -/
def cp24Dec : Span → Except Err CP24
  | [b0, b1, b2] => .ok (cp24Of b0 b1 b2)
  | S => .error (spanLength .cp24 S)

/-- The three bytes of a CP24Time2a whose fields fit (R182). -/
def cp24Bytes (v : CP24) : Span := leBytes 2 v.ms ++ [byte (put 0 6 v.min ||| putFlag 7 v.iv)]

/-- `ENC_CP24` (R182). -/
def cp24Enc (v : CP24) : Except Err Span :=
  if 2 ^ 16 ≤ v.ms then .error (fieldRange .cp24 .ms) else
  if 2 ^ 6 ≤ v.min then .error (fieldRange .cp24 .min) else
  .ok (cp24Bytes v)

/-- `DEC_CP56` (R184). -/
def cp56Dec : Span → Except Err CP56
  | [b0, b1, b2, h, d, mo, y] =>
    .ok { cp24Of b0 b1 b2 with
          hour := field h.toNat 0 5, su := flag h.toNat 7, day := field d.toNat 0 5, dow := field d.toNat 5 3,
          month := field mo.toNat 0 4, year := field y.toNat 0 7 }
  | S => .error (spanLength .cp56 S)

/-- `ENC_CP56` (R184). The fields are checked in the order of the record; the error names CP56 (log entry 9). -/
def cp56Enc (v : CP56) : Except Err Span :=
  if 2 ^ 16 ≤ v.ms then .error (fieldRange .cp56 .ms) else
  if 2 ^ 6 ≤ v.min then .error (fieldRange .cp56 .min) else
  if 2 ^ 5 ≤ v.hour then .error (fieldRange .cp56 .hour) else
  if 2 ^ 5 ≤ v.day then .error (fieldRange .cp56 .day) else
  if 2 ^ 3 ≤ v.dow then .error (fieldRange .cp56 .dow) else
  if 2 ^ 4 ≤ v.month then .error (fieldRange .cp56 .month) else
  if 2 ^ 7 ≤ v.year then .error (fieldRange .cp56 .year) else
  .ok (cp24Bytes v.toCP24 ++
    [byte (put 0 5 v.hour ||| putFlag 7 v.su), byte (put 0 5 v.day ||| put 5 3 v.dow), byte (put 0 4 v.month),
     byte (put 0 7 v.year)])

/-- The exact number of seconds a millisecond field denotes, `ms / 1000` (R187). No operation computes it. -/
def secondsOf (ms : Nat) : Rat := (ms : Rat) / 1000

/-! ### The catalog (R261) -/

/-- `DEC_E` of the element e: the decoder of 40_elem_status R102 for each codec. -/
def elemDecode (e : Elem) (S : Span) : Except Err ElemV :=
  match e with
  | .qds => (qdsDec S).map .qds
  | .siq => (siqDec S).map .siq
  | .diq => (diqDec S).map .diq
  | .vti => (vtiDec S).map .vti
  | .bsi => (bsiDec S).map .bsi
  | .scd => (scdDec S).map .scd
  | .qdp => (qdpDec S).map .qdp
  | .sep => (sepDec S).map .sep
  | .spe => (speDec S).map .spe
  | .oci => (ociDec S).map .oci
  | .nva => (nvaDec S).map .nva
  | .sva => (svaDec S).map .sva
  | .r32 => (r32Dec S).map .r32
  | .bcr => (bcrDec S).map .bcr
  | .sco => (scoDec S).map .sco
  | .dco => (dcoDec S).map .dco
  | .rco => (rcoDec S).map .rco
  | .qos => (qosDec S).map .qos
  | .qoi => (qoiDec S).map .qoi
  | .qcc => (qccDec S).map .qcc
  | .qpm => (qpmDec S).map .qpm
  | .qpa => (qpaDec S).map .qpa
  | .qrp => (qrpDec S).map .qrp
  | .coi => (coiDec S).map .coi
  | .fbp => (fbpDec S).map .fbp
  | .tsc => (tscDec S).map .tsc
  | .nof => (nofDec S).map .nof
  | .nos => (nosDec S).map .nos
  | .lof => (lofDec S).map .lof
  | .los => (losDec S).map .los
  | .chs => (chsDec S).map .chs
  | .frq => (frqDec S).map .frq
  | .srq => (srqDec S).map .srq
  | .scq => (scqDec S).map .scq
  | .lsq => (lsqDec S).map .lsq
  | .afq => (afqDec S).map .afq
  | .sof => (sofDec S).map .sof
  | .cp16 => (cp16Dec S).map .cp16
  | .cp24 => (cp24Dec S).map .cp24
  | .cp56 => (cp56Dec S).map .cp56

/-- `ENC_E` of a value of the element E (R101, R102). -/
def elemEncode : ElemV → Except Err Span
  | .qds v => qdsEnc v
  | .siq v => siqEnc v
  | .diq v => diqEnc v
  | .vti v => vtiEnc v
  | .bsi v => bsiEnc v
  | .scd v => scdEnc v
  | .qdp v => qdpEnc v
  | .sep v => sepEnc v
  | .spe v => speEnc v
  | .oci v => ociEnc v
  | .nva v => nvaEnc v
  | .sva v => svaEnc v
  | .r32 v => r32Enc v
  | .bcr v => bcrEnc v
  | .sco v => scoEnc v
  | .dco v => dcoEnc v
  | .rco v => rcoEnc v
  | .qos v => qosEnc v
  | .qoi v => qoiEnc v
  | .qcc v => qccEnc v
  | .qpm v => qpmEnc v
  | .qpa v => qpaEnc v
  | .qrp v => qrpEnc v
  | .coi v => coiEnc v
  | .fbp v => fbpEnc v
  | .tsc v => tscEnc v
  | .nof v => nofEnc v
  | .nos v => nosEnc v
  | .lof v => lofEnc v
  | .los v => losEnc v
  | .chs v => chsEnc v
  | .frq v => frqEnc v
  | .srq v => srqEnc v
  | .scq v => scqEnc v
  | .lsq v => lsqEnc v
  | .afq v => afqEnc v
  | .sof v => sofEnc v
  | .cp16 v => cp16Enc v
  | .cp24 v => cp24Enc v
  | .cp56 v => cp56Enc v

end Sys2Proof.Machine
end

