-- ==== Sys2Proof/Machine/TypeCodec.lean ====
section
/-! DEFINITION. The element-type dispatch: `ELEM_DEC` and `ELEM_ENC` (45_type_dispatch R190, R191, R260). -/
namespace Sys2Proof.Machine

/-- The loop of R190: each element of the layout is decoded from the next span of its width. -/
def decFields : Layout → Span → Except Err Record
  | [], _ => .ok []
  | (e, f) :: lay, S => do
    let v ← elemDecode e (S.take (elemWidth e))
    let rest ← decFields lay (S.drop (elemWidth e))
    .ok ((f, v) :: rest)

/-- The loop of R191: the encodings of the record's elements, in wire order. -/
def encRecord : Record → Except Err Span
  | [] => .ok []
  | (_, v) :: rest => do
    let S ← elemEncode v
    let T ← encRecord rest
    .ok (S ++ T)

/-- `ELEM_DEC` for one row: the type t with `COMP(t)` = lay (R190 after its type test). -/
def elemDecRow (t : Byte) (lay : Layout) (S : Span) : Except Err Record :=
  if S.length ≠ layoutWidth lay then .error (malformed (.m11 (.type t) S.length)) else decFields lay S

/-- U1 UnknownTypeId (R85, R260). -/
def unknownType (t : Byte) : Err := .unsupportedType (.u1 t)

/-- `ELEM_DEC(t, S)` (R190): the type test comes before the length test. -/
def elemDec (t : Byte) (S : Span) : Except Err Record :=
  match layoutOf t with
  | none => .error (unknownType t)
  | some lay => elemDecRow t lay S

/-- `ELEM_ENC(t, v)` of a value v of type t (R191). -/
def elemEnc (t : Byte) (v : Record) : Except Err Span :=
  match layoutOf t with
  | none => .error (unknownType t)
  | some _ => encRecord v

end Sys2Proof.Machine
end

