-- ==== Sys2Proof/Machine/AsduCodec.lean ====
section
/-! DEFINITION. The ASDU codec: `ASDU_DEC` and `ASDU_ENC` (46_asdu R270 to R285). -/
namespace Sys2Proof.Machine

/-- The header length `H = 2 + P_COT_W + P_CA_W` (R77, R271). -/
def headerLen (c : Cfg) : Nat := 2 + c.cotW + c.caW

/-! ### Decode -/

/-- `COT_DEC` (R273); the originator address is present exactly when P_COT_W = 2. -/
def cotDec (w : Nat) (C : Span) : Cot :=
  let b := (byteAt C 0).toNat
  { cause := field b 0 6, pn := flag b 6, test := flag b 7,
    oa := if w = 2 then some (byteAt C 1).toNat else none }

/-- M9 ChunkDivision. -/
def chunkDivision : Err := malformed .m9

/-- `LAYOUT_WIDTH(sq, m, n, k)` of R275 and R276. -/
def areaWidth (sq : Bool) (m n k : Nat) : Except Err Nat :=
  if sq then
    if m < k then .error chunkDivision else
    if (m - k) % n ≠ 0 then .error chunkDivision else .ok ((m - k) / n)
  else
    if m % n ≠ 0 then .error chunkDivision else
    if m / n < k then .error chunkDivision else .ok (m / n - k)

/-- `SET_OBJS` (R275): n chunks, each an address of k bytes and an element value of ew bytes. -/
def setObjs (t : Byte) (lay : Layout) (k ew : Nat) : Nat → Span → Except Err (List InfoObject)
  | 0, _ => .ok []
  | n + 1, area => do
    let v ← elemDecRow t lay ((area.drop k).take ew)
    let rest ← setObjs t lay k ew n (area.drop (k + ew))
    .ok ({ ioa := leNat (area.take k), val := v } :: rest)

/-- The element chunks of `SEQ_OBJS` (R276), the next one at address ioa; addresses are not wrapped. -/
def seqObjs (t : Byte) (lay : Layout) (ew : Nat) : Nat → Nat → Span → Except Err (List InfoObject)
  | 0, _, _ => .ok []
  | n + 1, ioa, area => do
    let v ← elemDecRow t lay (area.take ew)
    let rest ← seqObjs t lay ew n (ioa + 1) (area.drop ew)
    .ok ({ ioa := ioa, val := v } :: rest)

/-- The information objects of an area whose derived element width is ew (R270, R275, R276). -/
def areaObjs (t : Byte) (lay : Layout) (k ew : Nat) (sq : Bool) (n : Nat) (area : Span) :
    Except Err (List InfoObject) :=
  if sq then seqObjs t lay ew n (leNat (area.take k)) (area.drop k) else setObjs t lay k ew n area

/-- `ASDU_DEC(A)` (R270) where lay? is the layout of A's type identifier, none if it is not supported. The checks
stand in the order M7, M8, M9, U1, M10 of R278. -/
def asduDecWith (c : Cfg) (lay? : Option Layout) (A : Span) : Except Err Asdu :=
  if A.length < headerLen c then .error (malformed .m7) else
  let ti := byteAt A 0
  let n := field (byteAt A 1).toNat 0 7
  let sq := flag (byteAt A 1).toNat 7
  let area := A.drop (headerLen c)
  if n = 0 then .error (malformed .m8) else do
  let ew ← areaWidth sq area.length n c.ioaW
  match lay? with
  | none => .error (unknownType ti)
  | some lay =>
    if ew ≠ layoutWidth lay then .error (malformed (.m10 ti ew)) else do
    let objs ← areaObjs ti lay c.ioaW ew sq n area
    .ok { ti := ti, sq := sq, n := n, cot := cotDec c.cotW (A.drop 2),
          ca := leNat ((A.drop (2 + c.cotW)).take c.caW), objs := objs }

/-- `ASDU_DEC(A)` (R270). -/
def asduDec (c : Cfg) (A : Span) : Except Err Asdu := asduDecWith c (layoutOf (byteAt A 0)) A

/-! ### Encode -/

/-- X1 for a header field. -/
def headerRange (f : RangeField) : Err := .encodeError (.x1 f)

/-- `COT_ENC` (R282). -/
def cotEnc (w : Nat) (x : Cot) : Except Err Span :=
  if 2 ^ 6 ≤ x.cause then .error (headerRange .cause) else
  let b := byte (put 0 6 x.cause ||| putFlag 6 x.pn ||| putFlag 7 x.test)
  match x.oa with
  | none => if w = 2 then .error (headerRange .oa) else .ok [b]
  | some a => if w ≠ 2 ∨ 2 ^ 8 ≤ a then .error (headerRange .oa) else .ok [b, byte a]

/-- `CA_ENC` and `IOA_ENC` (R281): the w-byte little-endian span of x, X1 naming f if x does not fit. -/
def addrEnc (f : RangeField) (w x : Nat) : Except Err Span :=
  if 2 ^ (8 * w) ≤ x then .error (headerRange f) else .ok (leBytes w x)

/-- The area of the set layout (R283): each object's own address, then its element value. -/
def setArea (k : Nat) : List InfoObject → Except Err Span
  | [] => .ok []
  | o :: rest => do
    let a ← addrEnc .ioa k o.ioa
    let v ← encRecord o.val
    let S ← setArea k rest
    .ok (a ++ v ++ S)

/-- The index, counted from idx, of the first object whose address is not the next one (R284). -/
def firstWrong (next idx : Nat) : List InfoObject → Option Nat
  | [] => none
  | o :: rest => if o.ioa ≠ next then some idx else firstWrong (next + 1) (idx + 1) rest

/-- The element values of all objects, without addresses (R284). -/
def seqValues : List InfoObject → Except Err Span
  | [] => .ok []
  | o :: rest => do
    let v ← encRecord o.val
    let S ← seqValues rest
    .ok (v ++ S)

/-- The area of the sequence layout (R284): X1 of the base address, then X3, then the elements (R349). -/
def seqArea (k : Nat) (objs : List InfoObject) : Except Err Span :=
  let base := (objs.head?.map (·.ioa)).getD 0
  do
    let a ← addrEnc .ioa k base
    match firstWrong base 0 objs with
    | some j => .error (.encodeError (.x3 j))
    | none => do
      let S ← seqValues objs
      .ok (a ++ S)

/-- `ASDU_ENC(a)` (R280) after its type test, for a record of a supported type t. -/
def asduEncRow (c : Cfg) (t : Byte) (a : AsduBody) : Except Err Span :=
  if ¬ (1 ≤ a.n ∧ a.n ≤ 127) ∨ a.objs.length ≠ a.n then .error (.encodeError (.x2 a.n a.objs.length)) else do
  let cot ← cotEnc c.cotW a.cot
  let ca ← addrEnc .ca c.caW a.ca
  let area ← if a.sq then seqArea c.ioaW a.objs else setArea c.ioaW a.objs
  .ok (t :: byte (put 0 7 a.n ||| putFlag 7 a.sq) :: (cot ++ ca ++ area))

/-- `ASDU_ENC(a)` (R280). -/
def asduEnc (c : Cfg) (a : Asdu) : Except Err Span :=
  match layoutOf a.ti with
  | none => .error (unknownType a.ti)
  | some _ => asduEncRow c a.ti a.toAsduBody

end Sys2Proof.Machine
end

