-- ==== Sys2Proof/Machine/TypeRows.lean ====
section
/-! DEFINITION. What every type-identifier row does with the operation that selected it. -/
namespace Sys2Proof.Machine

/-- The operation op on the row of the type t with `COMP(t)` = lay: ELEM_DEC and ELEM_ENC (R190, R191), ASDU_DEC and
ASDU_ENC of an ASDU whose type identifier is t (R270, R280). All four are stateless (R11). -/
def execTypeRow (t : Byte) (lay : Layout) (op : TypeOp) (s : State) : Result :=
  match op with
  | .elemDec S => answer ((elemDecRow t lay S).map .elem) s
  | .elemEnc v => answer ((encRecord v).map .bytes) s
  | .asduDec rest => answer ((asduDecWith s.cfg (some lay) (t :: rest)).map .asdu) s
  | .asduEnc a => answer ((asduEncRow s.cfg t a).map .bytes) s

end Sys2Proof.Machine
end

