-- ==== Sys2Proof/Machine/CommandRows.lean ====
section
/-! DEFINITION. The meanings of the command types 45 to 51 and 58 to 64 (R226 to R239). -/
namespace Sys2Proof.Machine

/-- TI 45 C_SC_NA_1, single command (R226). -/
def execCScNa1 (op : TypeOp) (s : State) : Result := execTypeRow 45 layoutCScNa1 op s

/-- TI 46 C_DC_NA_1, double command (R227). -/
def execCDcNa1 (op : TypeOp) (s : State) : Result := execTypeRow 46 layoutCDcNa1 op s

/-- TI 47 C_RC_NA_1, regulating step command (R228). -/
def execCRcNa1 (op : TypeOp) (s : State) : Result := execTypeRow 47 layoutCRcNa1 op s

/-- TI 48 C_SE_NA_1, set-point command, normalized value (R229). -/
def execCSeNa1 (op : TypeOp) (s : State) : Result := execTypeRow 48 layoutCSeNa1 op s

/-- TI 49 C_SE_NB_1, set-point command, scaled value (R230). -/
def execCSeNb1 (op : TypeOp) (s : State) : Result := execTypeRow 49 layoutCSeNb1 op s

/-- TI 50 C_SE_NC_1, set-point command, short floating point number (R231). -/
def execCSeNc1 (op : TypeOp) (s : State) : Result := execTypeRow 50 layoutCSeNc1 op s

/-- TI 51 C_BO_NA_1, bitstring of 32 bit command (R232). -/
def execCBoNa1 (op : TypeOp) (s : State) : Result := execTypeRow 51 layoutCBoNa1 op s

/-- TI 58 C_SC_TA_1, single command with time tag CP56Time2a (R233). -/
def execCScTa1 (op : TypeOp) (s : State) : Result := execTypeRow 58 layoutCScTa1 op s

/-- TI 59 C_DC_TA_1, double command with time tag CP56Time2a (R234). -/
def execCDcTa1 (op : TypeOp) (s : State) : Result := execTypeRow 59 layoutCDcTa1 op s

/-- TI 60 C_RC_TA_1, regulating step command with time tag CP56Time2a (R235). -/
def execCRcTa1 (op : TypeOp) (s : State) : Result := execTypeRow 60 layoutCRcTa1 op s

/-- TI 61 C_SE_TA_1, set-point command, normalized value with time tag CP56Time2a (R236). -/
def execCSeTa1 (op : TypeOp) (s : State) : Result := execTypeRow 61 layoutCSeTa1 op s

/-- TI 62 C_SE_TB_1, set-point command, scaled value with time tag CP56Time2a (R237). -/
def execCSeTb1 (op : TypeOp) (s : State) : Result := execTypeRow 62 layoutCSeTb1 op s

/-- TI 63 C_SE_TC_1, set-point command, short floating point number with time tag CP56Time2a (R238). -/
def execCSeTc1 (op : TypeOp) (s : State) : Result := execTypeRow 63 layoutCSeTc1 op s

/-- TI 64 C_BO_TA_1, bitstring of 32 bit command with time tag CP56Time2a (R239). -/
def execCBoTa1 (op : TypeOp) (s : State) : Result := execTypeRow 64 layoutCBoTa1 op s

end Sys2Proof.Machine
end

