-- ==== Sys2Proof/Machine/FrameCodec.lean ====
section
/-! DEFINITION. The APDU framer: `SPLIT`, `FEED`, `FRAME_DEC` and `COMPOSE` (48_framer R300 to R313). -/
namespace Sys2Proof.Machine

/-! ### Splitting and streaming -/

/-- How the split loop of R300 ends: the buffer consumed exactly, or a framing failure at an offset. -/
inductive SplitEnd where
  | ok | m1 (p : Nat) | m2 (p : Nat)
deriving DecidableEq, Repr

/-- The loop of R300 on `rest = buf[p ..)`. Every pass consumes at least two bytes, so fuel equal to the buffer's
length is never used up (R301: a cursor, not recursion without bound). -/
def splitLoop : Nat → Nat → Span → List Span × SplitEnd
  | _, _, [] => ([], .ok)
  | 0, p, _ => ([], .m2 p)
  | fuel + 1, p, b :: rest =>
    if b ≠ pStart then ([], .m1 p) else
    match rest with
    | [] => ([], .m2 p)
    | L :: _ =>
      let size := L.toNat + 2
      if (b :: rest).length < size then ([], .m2 p) else
      let more := splitLoop fuel (p + size) ((b :: rest).drop size)
      ((b :: rest).take size :: more.1, more.2)

/-- `SPLIT(buf)` (R300): the complete frames before the failure point and how the loop ended. -/
def split (buf : Span) : List Span × SplitEnd := splitLoop buf.length 0 buf

/-- The end status of `SPLIT` (R302). -/
def splitStatus : SplitEnd → Status
  | .ok => .ok
  | .m1 p => .error (.m1 p)
  | .m2 p => .error (.m2 p)

/-- `FEED(bytes)` (R304, R305). -/
def opFeed (bytes : Span) (s : State) : Result :=
  match s.framer with
  | .stopped => raise (.framerStopped s.ferr) s
  | .run =>
    let buf := s.rxbuf ++ bytes
    let r := split buf
    match r.2 with
    | .ok => reply (.frames r.1 .ok) (s.setTail [])
    | .m2 p => reply (.frames r.1 (.incomplete (buf.length - p))) (s.setTail (buf.drop p))
    | .m1 p => reply (.frames r.1 (.error (.m1 p))) (s.stopFramer (.m1 p))

/-! ### One frame -/

/-- `FRAME_DEC(f)` (R308), its checks in the order M1, M5, M3, M4, U2, then the ASDU errors or M6 (R349). -/
def frameDec (c : Cfg) (f : Span) : Except Err Apdu :=
  if f.length = 0 ∨ byteAt f 0 ≠ pStart then .error (malformed (.m1 0)) else
  if f.length < 2 ∨ f.length ≠ (byteAt f 1).toNat + 2 then .error (malformed .m5) else
  let L := (byteAt f 1).toNat
  if L < 4 then .error (malformed (.m3 L)) else
  if c.maxLen < L then .error (malformed (.m4 L)) else do
  let apci ← apciDec ((f.drop 2).take 4)
  match apci with
  | .i ns nr => do
    let a ← asduDec c (f.drop 6)
    .ok { apci := .i ns nr, asdu := some a }
  | a => if L ≠ 4 then .error (malformed (.m6 L)) else .ok { apci := a, asdu := none }

/-- The frame of the control bytes ctl and the ASDU bytes a (R70), with the length bound of R313. -/
def frameOf (c : Cfg) (ctl a : Span) : Except Err Span :=
  let L := 4 + a.length
  if c.maxLen < L then .error (.encodeError (.x4 L)) else .ok (pStart :: byte L :: (ctl ++ a))

/-- X5 FormatMismatch. -/
def formatMismatch : Err := .encodeError .x5

/-- `COMPOSE(p)` (R312). -/
def compose (c : Cfg) (p : Apdu) : Except Err Span := do
  let ctl ← apciEnc p.apci
  match p.apci, p.asdu with
  | .i _ _, some a => do
    let A ← asduEnc c a
    frameOf c ctl A
  | .i _ _, none => .error formatMismatch
  | _, some _ => .error formatMismatch
  | _, none => frameOf c ctl []

end Sys2Proof.Machine
end

