-- ==== Sys2Proof/Machine/LinkOps.lean ====
section
/-! DEFINITION. The link sequence state machine: `LINK_RX`, `LINK_TX_I`, `LINK_TX_S`, `LINK_TX_U` and
`TRANSPORT_CLOSED` (49_link_sequence R320 to R328). -/
namespace Sys2Proof.Machine

/-- `LINK_RX` of an I APDU (R321, R322). Its operand is an APDU that FRAME_DEC gave; of a hand-built one, beyond its
fields and its format (log entry 7), only the two sequence numbers are looked at. DESIGN CHOICE for such a record: log entries 13 (numbers of 2^15 or more) and 15 (an
ASDU that is no record of R47). -/
def linkRxI (ns nr : Nat) (a : Asdu) (s : State) : Result :=
  match s.link with
  | .closed => raise .connectionClosed s
  | .connected =>
    if nr = s.vs.toNat ∧ ns = s.vr.toNat then reply (.verdict (.acceptI a)) (s.accept nr)
    else raise (.sequenceViolation (.s1 s.vs.toNat s.vr.toNat nr ns)) s.close

/-- `LINK_RX` of an S APDU (R321, R323). -/
def linkRxS (nr : Nat) (s : State) : Result :=
  match s.link with
  | .closed => raise .connectionClosed s
  | .connected =>
    if nr = s.vs.toNat then reply (.verdict .acceptS) (s.accept nr)
    else raise (.sequenceViolation (.s2 s.vs.toNat nr)) s.close

/-- `LINK_RX` of a U APDU (R321, R324). -/
def linkRxU (act : UAct) (s : State) : Result :=
  match s.link with
  | .closed => raise .connectionClosed s
  | .connected => reply (.verdict (.control act)) s

/-- `LINK_TX_I(a)` (R325): a frame that fails to compose increments nothing. -/
def linkTxI (a : Asdu) (s : State) : Result :=
  match s.link with
  | .closed => raise .connectionClosed s
  | .connected =>
    match compose s.cfg { apci := .i s.vs.toNat s.vr.toNat, asdu := some a } with
    | .error e => raise e s
    | .ok f => reply (.bytes f) s.advanceVs

/-- `LINK_TX_S()` (R326). -/
def linkTxS (s : State) : Result :=
  match s.link with
  | .closed => raise .connectionClosed s
  | .connected =>
    match compose s.cfg { apci := .s s.vr.toNat, asdu := none } with
    | .error e => raise e s
    | .ok f => reply (.bytes f) (if s.cfg.sTxAdvancesVs then s.advanceVs else s)

/-- `LINK_TX_U(act)` (R327). -/
def linkTxU (act : UAct) (s : State) : Result :=
  match s.link with
  | .closed => raise .connectionClosed s
  | .connected => answer ((compose s.cfg { apci := .u act, asdu := none }).map .bytes) s

/-- `TRANSPORT_CLOSED()` (R328). -/
def opTransportClosed (s : State) : Result := reply .done s.close

end Sys2Proof.Machine
end

