-- ==== Sys2Proof/Machine/ControlRows.lean ====
section
/-! DEFINITION. The meanings of the I, S and U rows: the APCI codec, the frame codec and the link operations on an
APDU of the row's format (47_apci, 48_framer, 49_link_sequence). -/
namespace Sys2Proof.Machine

/-- The I format (R291, R295, R308, R310, R312, R322, R325). -/
def execIFormat (op : IOp) (s : State) : Result :=
  match op with
  | .apciDec c0 c1 c2 c3 => reply (.apci (iDecode c0 c1 c2 c3)) s
  | .apciEnc ns nr => answer ((apciEnc (.i ns nr)).map .bytes) s
  | .frameDec f => answer ((frameDec s.cfg f).map .apdu) s
  | .compose ns nr a => answer ((compose s.cfg { apci := .i ns nr, asdu := a }).map .bytes) s
  | .linkRx ns nr a => linkRxI ns nr a s
  | .linkTx a => linkTxI a s

/-- The S format (R292, R295, R308, R311, R312, R323, R326). -/
def execSFormat (op : SOp) (s : State) : Result :=
  match op with
  | .apciDec _ _ c2 c3 => reply (.apci (sDecode c2 c3)) s
  | .apciEnc nr => answer ((apciEnc (.s nr)).map .bytes) s
  | .frameDec f => answer ((frameDec s.cfg f).map .apdu) s
  | .compose nr a => answer ((compose s.cfg { apci := .s nr, asdu := a }).map .bytes) s
  | .linkRx nr => linkRxS nr s
  | .linkTx => linkTxS s

/-- What every U row does with its action (R293, R295, R308, R311, R312, R324, R327). -/
def execURow (act : UAct) (op : UOp) (s : State) : Result :=
  match op with
  | .apciDec _ _ _ => reply (.apci (.u act)) s
  | .apciEnc => answer ((apciEnc (.u act)).map .bytes) s
  | .frameDec f => answer ((frameDec s.cfg f).map .apdu) s
  | .compose a => answer ((compose s.cfg { apci := .u act, asdu := a }).map .bytes) s
  | .linkRx => linkRxU act s
  | .linkTx => linkTxU act s

/-- U STARTDT_ACT, c0 = 0x07 (R76). -/
def execUStartdtAct (op : UOp) (s : State) : Result := execURow .startdtAct op s

/-- U STARTDT_CON, c0 = 0x0B (R76). -/
def execUStartdtCon (op : UOp) (s : State) : Result := execURow .startdtCon op s

/-- U STOPDT_ACT, c0 = 0x13 (R76). -/
def execUStopdtAct (op : UOp) (s : State) : Result := execURow .stopdtAct op s

/-- U STOPDT_CON, c0 = 0x23 (R76). -/
def execUStopdtCon (op : UOp) (s : State) : Result := execURow .stopdtCon op s

/-- U TESTFR_ACT, c0 = 0x43 (R76). -/
def execUTestfrAct (op : UOp) (s : State) : Result := execURow .testfrAct op s

/-- U TESTFR_CON, c0 = 0x83 (R76). -/
def execUTestfrCon (op : UOp) (s : State) : Result := execURow .testfrCon op s

end Sys2Proof.Machine
end

