-- ==== Sys2Proof/Machine/FileRows.lean ====
section
/-! DEFINITION. The meanings of the file-transfer types 120 to 127 (R253 to R259). -/
namespace Sys2Proof.Machine

/-- TI 120 F_FR_NA_1, file ready (R253). -/
def execFFrNa1 (op : TypeOp) (s : State) : Result := execTypeRow 120 layoutFFrNa1 op s

/-- TI 121 F_SR_NA_1, section ready (R254). -/
def execFSrNa1 (op : TypeOp) (s : State) : Result := execTypeRow 121 layoutFSrNa1 op s

/-- TI 122 F_SC_NA_1, call directory, select file, call file, call section (R255). -/
def execFScNa1 (op : TypeOp) (s : State) : Result := execTypeRow 122 layoutFScNa1 op s

/-- TI 123 F_LS_NA_1, last section, last segment (R256). -/
def execFLsNa1 (op : TypeOp) (s : State) : Result := execTypeRow 123 layoutFLsNa1 op s

/-- TI 124 F_AF_NA_1, ack file, ack section (R257). -/
def execFAfNa1 (op : TypeOp) (s : State) : Result := execTypeRow 124 layoutFAfNa1 op s

/-- TI 126 F_DR_TA_1, directory (R258). -/
def execFDrTa1 (op : TypeOp) (s : State) : Result := execTypeRow 126 layoutFDrTa1 op s

/-- TI 127 F_SC_NB_1, query log, request archive file (R259). -/
def execFScNb1 (op : TypeOp) (s : State) : Result := execTypeRow 127 layoutFScNb1 op s

end Sys2Proof.Machine
end

