-- ==== Sys2Proof/Machine/MonitorRows.lean ====
section
/-! DEFINITION. The meanings of the monitor types 1 to 21 (R194 to R214). -/
namespace Sys2Proof.Machine

/-- TI 1 M_SP_NA_1, single-point information (R194). -/
def execMSpNa1 (op : TypeOp) (s : State) : Result := execTypeRow 1 layoutMSpNa1 op s

/-- TI 2 M_SP_TA_1, single-point information with time tag CP24Time2a (R195). -/
def execMSpTa1 (op : TypeOp) (s : State) : Result := execTypeRow 2 layoutMSpTa1 op s

/-- TI 3 M_DP_NA_1, double-point information (R196). -/
def execMDpNa1 (op : TypeOp) (s : State) : Result := execTypeRow 3 layoutMDpNa1 op s

/-- TI 4 M_DP_TA_1, double-point information with time tag CP24Time2a (R197). -/
def execMDpTa1 (op : TypeOp) (s : State) : Result := execTypeRow 4 layoutMDpTa1 op s

/-- TI 5 M_ST_NA_1, step position information (R198). -/
def execMStNa1 (op : TypeOp) (s : State) : Result := execTypeRow 5 layoutMStNa1 op s

/-- TI 6 M_ST_TA_1, step position information with time tag CP24Time2a (R199). -/
def execMStTa1 (op : TypeOp) (s : State) : Result := execTypeRow 6 layoutMStTa1 op s

/-- TI 7 M_BO_NA_1, bitstring of 32 bit (R200). -/
def execMBoNa1 (op : TypeOp) (s : State) : Result := execTypeRow 7 layoutMBoNa1 op s

/-- TI 8 M_BO_TA_1, bitstring of 32 bit with time tag CP24Time2a (R201). -/
def execMBoTa1 (op : TypeOp) (s : State) : Result := execTypeRow 8 layoutMBoTa1 op s

/-- TI 9 M_ME_NA_1, measured value, normalized value (R202). -/
def execMMeNa1 (op : TypeOp) (s : State) : Result := execTypeRow 9 layoutMMeNa1 op s

/-- TI 10 M_ME_TA_1, measured value, normalized value with time tag CP24Time2a (R203). -/
def execMMeTa1 (op : TypeOp) (s : State) : Result := execTypeRow 10 layoutMMeTa1 op s

/-- TI 11 M_ME_NB_1, measured value, scaled value (R204). -/
def execMMeNb1 (op : TypeOp) (s : State) : Result := execTypeRow 11 layoutMMeNb1 op s

/-- TI 12 M_ME_TB_1, measured value, scaled value with time tag CP24Time2a (R205). -/
def execMMeTb1 (op : TypeOp) (s : State) : Result := execTypeRow 12 layoutMMeTb1 op s

/-- TI 13 M_ME_NC_1, measured value, short floating point number (R206). -/
def execMMeNc1 (op : TypeOp) (s : State) : Result := execTypeRow 13 layoutMMeNc1 op s

/-- TI 14 M_ME_TC_1, measured value, short floating point number with time tag CP24Time2a (R207). -/
def execMMeTc1 (op : TypeOp) (s : State) : Result := execTypeRow 14 layoutMMeTc1 op s

/-- TI 15 M_IT_NA_1, integrated totals (R208). -/
def execMItNa1 (op : TypeOp) (s : State) : Result := execTypeRow 15 layoutMItNa1 op s

/-- TI 16 M_IT_TA_1, integrated totals with time tag CP24Time2a (R209). -/
def execMItTa1 (op : TypeOp) (s : State) : Result := execTypeRow 16 layoutMItTa1 op s

/-- TI 17 M_EP_TA_1, event of protection equipment with time tag CP24Time2a (R210). -/
def execMEpTa1 (op : TypeOp) (s : State) : Result := execTypeRow 17 layoutMEpTa1 op s

/-- TI 18 M_EP_TB_1, packed start events of protection equipment with time tag CP24Time2a (R211). -/
def execMEpTb1 (op : TypeOp) (s : State) : Result := execTypeRow 18 layoutMEpTb1 op s

/-- TI 19 M_EP_TC_1, packed output circuit information of protection equipment with time tag CP24Time2a (R212). -/
def execMEpTc1 (op : TypeOp) (s : State) : Result := execTypeRow 19 layoutMEpTc1 op s

/-- TI 20 M_PS_NA_1, packed single-point information with status change detection (R213). -/
def execMPsNa1 (op : TypeOp) (s : State) : Result := execTypeRow 20 layoutMPsNa1 op s

/-- TI 21 M_ME_ND_1, measured value, normalized value without quality descriptor (R214). -/
def execMMeNd1 (op : TypeOp) (s : State) : Result := execTypeRow 21 layoutMMeNd1 op s

end Sys2Proof.Machine
end

