-- ==== Sys2Proof/Machine/MonitorTimeRows.lean ====
section
/-! DEFINITION. The meanings of the monitor types 30 to 40 with CP56Time2a (R215 to R225). -/
namespace Sys2Proof.Machine

/-- TI 30 M_SP_TB_1, single-point information with time tag CP56Time2a (R215). -/
def execMSpTb1 (op : TypeOp) (s : State) : Result := execTypeRow 30 layoutMSpTb1 op s

/-- TI 31 M_DP_TB_1, double-point information with time tag CP56Time2a (R216). -/
def execMDpTb1 (op : TypeOp) (s : State) : Result := execTypeRow 31 layoutMDpTb1 op s

/-- TI 32 M_ST_TB_1, step position information with time tag CP56Time2a (R217). -/
def execMStTb1 (op : TypeOp) (s : State) : Result := execTypeRow 32 layoutMStTb1 op s

/-- TI 33 M_BO_TB_1, bitstring of 32 bit with time tag CP56Time2a (R218). -/
def execMBoTb1 (op : TypeOp) (s : State) : Result := execTypeRow 33 layoutMBoTb1 op s

/-- TI 34 M_ME_TD_1, measured value, normalized value with time tag CP56Time2a (R219). -/
def execMMeTd1 (op : TypeOp) (s : State) : Result := execTypeRow 34 layoutMMeTd1 op s

/-- TI 35 M_ME_TE_1, measured value, scaled value with time tag CP56Time2a (R220). -/
def execMMeTe1 (op : TypeOp) (s : State) : Result := execTypeRow 35 layoutMMeTe1 op s

/-- TI 36 M_ME_TF_1, measured value, short floating point number with time tag CP56Time2a (R221). -/
def execMMeTf1 (op : TypeOp) (s : State) : Result := execTypeRow 36 layoutMMeTf1 op s

/-- TI 37 M_IT_TB_1, integrated totals with time tag CP56Time2a (R222). -/
def execMItTb1 (op : TypeOp) (s : State) : Result := execTypeRow 37 layoutMItTb1 op s

/-- TI 38 M_EP_TD_1, event of protection equipment with time tag CP56Time2a (R223). -/
def execMEpTd1 (op : TypeOp) (s : State) : Result := execTypeRow 38 layoutMEpTd1 op s

/-- TI 39 M_EP_TE_1, packed start events of protection equipment with time tag CP56Time2a (R224). -/
def execMEpTe1 (op : TypeOp) (s : State) : Result := execTypeRow 39 layoutMEpTe1 op s

/-- TI 40 M_EP_TF_1, packed output circuit information of protection equipment with time tag CP56Time2a (R225). -/
def execMEpTf1 (op : TypeOp) (s : State) : Result := execTypeRow 40 layoutMEpTf1 op s

end Sys2Proof.Machine
end

