-- ==== Sys2Proof/Machine/ParameterRows.lean ====
section
/-! DEFINITION. The meanings of the parameter types 110 to 113 (R249 to R252). -/
namespace Sys2Proof.Machine

/-- TI 110 P_ME_NA_1, parameter of measured value, normalized value (R249). -/
def execPMeNa1 (op : TypeOp) (s : State) : Result := execTypeRow 110 layoutPMeNa1 op s

/-- TI 111 P_ME_NB_1, parameter of measured value, scaled value (R250). -/
def execPMeNb1 (op : TypeOp) (s : State) : Result := execTypeRow 111 layoutPMeNb1 op s

/-- TI 112 P_ME_NC_1, parameter of measured value, short floating point number (R251). -/
def execPMeNc1 (op : TypeOp) (s : State) : Result := execTypeRow 112 layoutPMeNc1 op s

/-- TI 113 P_AC_NA_1, parameter activation (R252). -/
def execPAcNa1 (op : TypeOp) (s : State) : Result := execTypeRow 113 layoutPAcNa1 op s

end Sys2Proof.Machine
end

