-- ==== Sys2Proof/Machine/SystemRows.lean ====
section
/-! DEFINITION. The meanings of the system types 70 and 100 to 107 (R240 to R248). -/
namespace Sys2Proof.Machine

/-- TI 70 M_EI_NA_1, end of initialization (R240). -/
def execMEiNa1 (op : TypeOp) (s : State) : Result := execTypeRow 70 layoutMEiNa1 op s

/-- TI 100 C_IC_NA_1, interrogation command (R241). -/
def execCIcNa1 (op : TypeOp) (s : State) : Result := execTypeRow 100 layoutCIcNa1 op s

/-- TI 101 C_CI_NA_1, counter interrogation command (R242). -/
def execCCiNa1 (op : TypeOp) (s : State) : Result := execTypeRow 101 layoutCCiNa1 op s

/-- TI 102 C_RD_NA_1, read command (R243). -/
def execCRdNa1 (op : TypeOp) (s : State) : Result := execTypeRow 102 layoutCRdNa1 op s

/-- TI 103 C_CS_NA_1, clock synchronization command (R244). -/
def execCCsNa1 (op : TypeOp) (s : State) : Result := execTypeRow 103 layoutCCsNa1 op s

/-- TI 104 C_TS_NA_1, test command (R245). -/
def execCTsNa1 (op : TypeOp) (s : State) : Result := execTypeRow 104 layoutCTsNa1 op s

/-- TI 105 C_RP_NA_1, reset process command (R246). -/
def execCRpNa1 (op : TypeOp) (s : State) : Result := execTypeRow 105 layoutCRpNa1 op s

/-- TI 106 C_CD_NA_1, delay acquisition command (R247). -/
def execCCdNa1 (op : TypeOp) (s : State) : Result := execTypeRow 106 layoutCCdNa1 op s

/-- TI 107 C_TS_TA_1, test command with time tag CP56Time2a (R248). -/
def execCTsTa1 (op : TypeOp) (s : State) : Result := execTypeRow 107 layoutCTsTa1 op s

end Sys2Proof.Machine
end

