-- ==== Sys2Proof/Machine/Dispatch.lean ====
section
/-! DEFINITION. The dispatch of an instruction to its meaning: one arm per row of the opcode table. -/
namespace Sys2Proof.Machine

def exec (i : Instr) (s : State) : Host.Outcome State Fault Refusal :=
  match i with
  | .iFormat op => Sys2Proof.Machine.execIFormat op s
  | .sFormat op => Sys2Proof.Machine.execSFormat op s
  | .uStartdtAct op => Sys2Proof.Machine.execUStartdtAct op s
  | .uStartdtCon op => Sys2Proof.Machine.execUStartdtCon op s
  | .uStopdtAct op => Sys2Proof.Machine.execUStopdtAct op s
  | .uStopdtCon op => Sys2Proof.Machine.execUStopdtCon op s
  | .uTestfrAct op => Sys2Proof.Machine.execUTestfrAct op s
  | .uTestfrCon op => Sys2Proof.Machine.execUTestfrCon op s
  | .mSpNa1 op => Sys2Proof.Machine.execMSpNa1 op s
  | .mSpTa1 op => Sys2Proof.Machine.execMSpTa1 op s
  | .mDpNa1 op => Sys2Proof.Machine.execMDpNa1 op s
  | .mDpTa1 op => Sys2Proof.Machine.execMDpTa1 op s
  | .mStNa1 op => Sys2Proof.Machine.execMStNa1 op s
  | .mStTa1 op => Sys2Proof.Machine.execMStTa1 op s
  | .mBoNa1 op => Sys2Proof.Machine.execMBoNa1 op s
  | .mBoTa1 op => Sys2Proof.Machine.execMBoTa1 op s
  | .mMeNa1 op => Sys2Proof.Machine.execMMeNa1 op s
  | .mMeTa1 op => Sys2Proof.Machine.execMMeTa1 op s
  | .mMeNb1 op => Sys2Proof.Machine.execMMeNb1 op s
  | .mMeTb1 op => Sys2Proof.Machine.execMMeTb1 op s
  | .mMeNc1 op => Sys2Proof.Machine.execMMeNc1 op s
  | .mMeTc1 op => Sys2Proof.Machine.execMMeTc1 op s
  | .mItNa1 op => Sys2Proof.Machine.execMItNa1 op s
  | .mItTa1 op => Sys2Proof.Machine.execMItTa1 op s
  | .mEpTa1 op => Sys2Proof.Machine.execMEpTa1 op s
  | .mEpTb1 op => Sys2Proof.Machine.execMEpTb1 op s
  | .mEpTc1 op => Sys2Proof.Machine.execMEpTc1 op s
  | .mPsNa1 op => Sys2Proof.Machine.execMPsNa1 op s
  | .mMeNd1 op => Sys2Proof.Machine.execMMeNd1 op s
  | .mSpTb1 op => Sys2Proof.Machine.execMSpTb1 op s
  | .mDpTb1 op => Sys2Proof.Machine.execMDpTb1 op s
  | .mStTb1 op => Sys2Proof.Machine.execMStTb1 op s
  | .mBoTb1 op => Sys2Proof.Machine.execMBoTb1 op s
  | .mMeTd1 op => Sys2Proof.Machine.execMMeTd1 op s
  | .mMeTe1 op => Sys2Proof.Machine.execMMeTe1 op s
  | .mMeTf1 op => Sys2Proof.Machine.execMMeTf1 op s
  | .mItTb1 op => Sys2Proof.Machine.execMItTb1 op s
  | .mEpTd1 op => Sys2Proof.Machine.execMEpTd1 op s
  | .mEpTe1 op => Sys2Proof.Machine.execMEpTe1 op s
  | .mEpTf1 op => Sys2Proof.Machine.execMEpTf1 op s
  | .cScNa1 op => Sys2Proof.Machine.execCScNa1 op s
  | .cDcNa1 op => Sys2Proof.Machine.execCDcNa1 op s
  | .cRcNa1 op => Sys2Proof.Machine.execCRcNa1 op s
  | .cSeNa1 op => Sys2Proof.Machine.execCSeNa1 op s
  | .cSeNb1 op => Sys2Proof.Machine.execCSeNb1 op s
  | .cSeNc1 op => Sys2Proof.Machine.execCSeNc1 op s
  | .cBoNa1 op => Sys2Proof.Machine.execCBoNa1 op s
  | .cScTa1 op => Sys2Proof.Machine.execCScTa1 op s
  | .cDcTa1 op => Sys2Proof.Machine.execCDcTa1 op s
  | .cRcTa1 op => Sys2Proof.Machine.execCRcTa1 op s
  | .cSeTa1 op => Sys2Proof.Machine.execCSeTa1 op s
  | .cSeTb1 op => Sys2Proof.Machine.execCSeTb1 op s
  | .cSeTc1 op => Sys2Proof.Machine.execCSeTc1 op s
  | .cBoTa1 op => Sys2Proof.Machine.execCBoTa1 op s
  | .mEiNa1 op => Sys2Proof.Machine.execMEiNa1 op s
  | .cIcNa1 op => Sys2Proof.Machine.execCIcNa1 op s
  | .cCiNa1 op => Sys2Proof.Machine.execCCiNa1 op s
  | .cRdNa1 op => Sys2Proof.Machine.execCRdNa1 op s
  | .cCsNa1 op => Sys2Proof.Machine.execCCsNa1 op s
  | .cTsNa1 op => Sys2Proof.Machine.execCTsNa1 op s
  | .cRpNa1 op => Sys2Proof.Machine.execCRpNa1 op s
  | .cCdNa1 op => Sys2Proof.Machine.execCCdNa1 op s
  | .cTsTa1 op => Sys2Proof.Machine.execCTsTa1 op s
  | .pMeNa1 op => Sys2Proof.Machine.execPMeNa1 op s
  | .pMeNb1 op => Sys2Proof.Machine.execPMeNb1 op s
  | .pMeNc1 op => Sys2Proof.Machine.execPMeNc1 op s
  | .pAcNa1 op => Sys2Proof.Machine.execPAcNa1 op s
  | .fFrNa1 op => Sys2Proof.Machine.execFFrNa1 op s
  | .fSrNa1 op => Sys2Proof.Machine.execFSrNa1 op s
  | .fScNa1 op => Sys2Proof.Machine.execFScNa1 op s
  | .fLsNa1 op => Sys2Proof.Machine.execFLsNa1 op s
  | .fAfNa1 op => Sys2Proof.Machine.execFAfNa1 op s
  | .fDrTa1 op => Sys2Proof.Machine.execFDrTa1 op s
  | .fScNb1 op => Sys2Proof.Machine.execFScNb1 op s

end Sys2Proof.Machine
end

