-- ==== Sys2Proof/Machine/Operations.lean ====
section
/-! DEFINITION. The sixteen operations of 00_scope R10, each performed as a whole on one instance. `step` runs the
instruction of the row an operation selects (Dispatch) and uses this definition for the operations that select none. -/
namespace Sys2Proof.Machine

/-- `RESET(c)` (R360); a record out of range is no configuration and is refused before the operation. -/
def opReset (c : Cfg) (s : State) : Result :=
  if c.Ok then reply .done (s.resetTo c) else .refused .illTypedOperand

/-- `LINK_RX(p)` (R321); an I APDU without an ASDU, or an S or U APDU with one, is no APDU record (R48). -/
def opLinkRx (p : Apdu) (s : State) : Result :=
  match p.apci, p.asdu with
  | .i ns nr, some a => linkRxI ns nr a s
  | .s nr, none => linkRxS nr s
  | .u act, none => linkRxU act s
  | _, _ => .refused .illTypedOperand

/-- One operation of R10, whichever row it selects. -/
def runOp (r : Request) (s : State) : Result :=
  match r with
  | .elemDec t S => answer ((elemDec t S).map .elem) s
  | .elemEnc t v => answer ((elemEnc t v).map .bytes) s
  | .asduDec A => answer ((asduDec s.cfg A).map .asdu) s
  | .asduEnc a => answer ((asduEnc s.cfg a).map .bytes) s
  | .apciDec c => answer ((apciDec c).map .apci) s
  | .apciEnc a => answer ((apciEnc a).map .bytes) s
  | .split buf => reply (.frames (split buf).1 (splitStatus (split buf).2)) s
  | .feed bytes => opFeed bytes s
  | .frameDec f => answer ((frameDec s.cfg f).map .apdu) s
  | .compose p => answer ((compose s.cfg p).map .bytes) s
  | .linkRx p => opLinkRx p s
  | .linkTxI a => linkTxI a s
  | .linkTxS => linkTxS s
  | .linkTxU act => linkTxU act s
  | .transportClosed => opTransportClosed s
  | .reset c => opReset c s

end Sys2Proof.Machine
end

