-- ==== Sys2Proof/Machine/Step.lean ====
section
/-! DEFINITION. One step: the block performs the oldest operation its owner has issued, as a whole (20_memory R60,
R61). -/
namespace Sys2Proof.Machine

/-- The operations pending after this step become rs. -/
def State.setReqs (s : State) (rs : List Request) : State := { s with reqs := rs }

/-- One operation: the instruction of the row it selects, if its operands are values of their types; else the
operation itself, which selects no row. -/
def runRequest (r : Request) (s : State) : Host.Outcome State Fault Refusal :=
  match Sys2Proof.decode r with
  | .ok i => if i.wellFormed then exec i s else .refused .illTypedOperand
  | .error _ => runOp r s

/-- One step. With no operation issued the block stays as it is (DESIGN CHOICE, log entry 3). -/
def step (s : State) : Host.Outcome State Fault Refusal :=
  match s.reqs with
  | [] => .next s
  | r :: rest => runRequest r (s.setReqs rest)

/-- The operation of an opcode-table word issued as the next one (log entry 4). -/
def State.withFetchWord (s : State) (nbits w : Nat) : State :=
  s.setReqs (Sys2Proof.tableRequest nbits w :: s.reqs)

end Sys2Proof.Machine
end

