-- ==== Sys2Proof/Safety.lean ====
section
/-! DEFINITION. The terms claims about runs use: the invariant of every reachable state, and the two sticky
conditions of 60_exceptions R354. -/
namespace Sys2Proof.Machine

/-- A tail that `FEED` may keep: empty, the lone start delimiter, or a frame prefix shorter than its declared
size (R304, R306). -/
def tailOk : Span → Bool
  | [] => true
  | [b] => b == pStart
  | b :: L :: rest => b == pStart && decide (rest.length < L.toNat)

/-- `st.FERR` holds the M1 error that stopped the framer, and nothing while it runs (R36). -/
def ferrOk : Framer → Option Malformed → Bool
  | .run, none => true
  | .stopped, some (.m1 _) => true
  | _, _ => false

/-- The invariant of every reachable state: the configuration is in range (R37), the tail is one that FEED keeps
(R35, R306), FERR agrees with FRAMER (R36), and a stopped framer holds no tail (R351 (b)). -/
structure State.Inv (s : State) : Prop where
  cfg_ok : s.cfg.Ok
  tail_ok : tailOk s.rxbuf = true
  ferr_ok : ferrOk s.framer s.ferr = true
  stopped_empty : s.framer = .stopped → s.rxbuf = []

/-- Whether a request is a `RESET`, the only way out of CLOSED and STOPPED (R354). -/
def isReset : Request → Bool
  | .reset _ => true
  | _ => false

/-- Whether a request is a link operation of R345. -/
def isLinkOp : Request → Bool
  | .linkRx _ | .linkTxI _ | .linkTxS | .linkTxU _ => true
  | _ => false

/-- Whether a request is one of the stateless operations of R11. -/
def isStateless : Request → Bool
  | .elemDec _ _ | .elemEnc _ _ | .asduDec _ | .asduEnc _ | .apciDec _ | .apciEnc _
  | .split _ | .frameDec _ | .compose _ => true
  | _ => false

end Sys2Proof.Machine
end

