-- ==== Sys2Proof/Certificates/Slice0/Obligations.lean ====
section
/-! DEFINITION. The statements for the provers. Those of basis 'stated' say what a numbered rule of spec/ says, in bits and
bytes of their own where a codec is concerned; the others rest on the sections their entry names. -/

namespace Sys2Proof.Claims
open Sys2Proof Sys2Proof.Machine

/-! ### The vocabulary of the statements -/

/-- `v[lo+w-1:lo]` of R22, as a number. -/
def bits (b : Byte) (lo w : Nat) : Nat := (b.extractLsb' lo w).toNat

/-- `S[lo..hi)` of R23. -/
def slice (S : Span) (lo hi : Nat) : Span := (S.drop lo).take (hi - lo)

/-- `S[i]` of R23, for an index inside the span. -/
def at' (S : Span) (i : Nat) : Byte := S.getD i 0

/-- The little-endian number of a span (R24). -/
def littleEndian (S : Span) : Nat := S.foldr (fun b n => b.toNat + 256 * n) 0

/-- The operation ends with the result x, and nothing else of the state changes. -/
abbrev gives (o : Host.Outcome State Fault Refusal) (s : State) (x : Response) : Prop :=
  o = .next { s with resps := s.resps ++ [x] }

/-- M11 of an element decoder (R102). -/
def spanErr (e : Elem) (S : Span) : Err := .malformedFrame (.m11 (.element e) S.length)

/-- X1 of a field of an element (R101). -/
def rangeErr (e : Elem) (f : SubField) : Err := .encodeError (.x1 (.element e f))

/-- X1 of a header field (R346). -/
def headErr (f : RangeField) : Response := .err (.encodeError (.x1 f))

/-- MalformedFrame as a result. -/
def mfErr (m : Malformed) : Response := .err (.malformedFrame m)

/-- The bits of each byte that no field of the element names (40 to 44, R87). -/
def reserved : Elem → List Byte
  | .qds | .siq => [0x0E]
  | .diq => [0x0C]
  | .qdp => [0x07]
  | .sep => [0x04]
  | .spe => [0xC0]
  | .oci => [0xF0]
  | .sco => [0x02]
  | .cp24 => [0, 0, 0x40]
  | .cp56 => [0, 0, 0x40, 0x60, 0, 0xF0, 0x80]
  | _ => []

/-- Every reserved bit of the span of element e is 0. -/
def ReservedZero (e : Elem) (S : Span) : Prop := ∀ i, at' S i &&& at' (reserved e) i = 0

/-- Every reserved bit of an element-value span of the layout is 0. -/
def ValueReservedZero : Layout → Span → Prop
  | [], _ => True
  | (e, _) :: lay, S => ReservedZero e (S.take (elemWidth e)) ∧ ValueReservedZero lay (S.drop (elemWidth e))

/-- One row of 45_type_dispatch section 2: its constructor, its type identifier, its elements with their field names and
byte ranges, and its width. -/
structure Row where
  ctor : TypeOp → Instr
  ti : Byte
  comp : List (Elem × FieldName × Nat × Nat)
  w : Nat

/-- v is the record whose fields are decoded from the byte ranges of S (R190). -/
def DecodesTo (S : Span) : List (Elem × FieldName × Nat × Nat) → Record → Prop
  | [], [] => True
  | (e, f, lo, hi) :: comp, (g, x) :: v => g = f ∧ elemDecode e (slice S lo hi) = .ok x ∧ DecodesTo S comp v
  | _, _ => False

/-- v has exactly the fields of the row, each of its element (R191). -/
def HasFields : List (Elem × FieldName × Nat × Nat) → Record → Prop
  | [], [] => True
  | (e, f, _, _) :: comp, (g, x) :: v => g = f ∧ x.elem = e ∧ HasFields comp v
  | _, _ => False

/-- out is the encodings of the record's elements in wire order (R191). -/
def EncodesTo (v : Record) (out : Span) : Prop :=
  ∃ parts : List Span, List.Forall₂ (fun p S => elemEncode p.2 = .ok S) v parts ∧ out = parts.flatten

/-- e is the error of the first element of the record that does not encode (R191, R349). -/
def FirstFails (v : Record) (e : Err) : Prop :=
  ∃ pre f x post, v = pre ++ (f, x) :: post ∧ (∀ p ∈ pre, ∃ S, elemEncode p.2 = .ok S) ∧ elemEncode x = .error e

/-- What a rule of 45_type_dispatch section 2 says of its type: the type identifier selects the row; a span of W bytes
decodes to the record of the elements at their offsets; another length is M11; a record encodes to W bytes, element by
element, or raises the X1 of the first element that does not encode. That M11 of ELEM_DEC records the type and the length
is the model's choice (log entry 10): R190 names the type, R342 the element and the length. -/
def RowHolds (r : Row) : Prop :=
  (∀ op, decode (encodeType r.ti op) = .ok (r.ctor op)) ∧ ∀ s,
    (∀ S : Span, S.length = r.w → ∃ v, DecodesTo S r.comp v ∧ gives (exec (r.ctor (.elemDec S)) s) s (.elem v)) ∧
    (∀ S : Span, S.length ≠ r.w → gives (exec (r.ctor (.elemDec S)) s) s (mfErr (.m11 (.type r.ti) S.length))) ∧
    (∀ v out, HasFields r.comp v → EncodesTo v out →
      out.length = r.w ∧ gives (exec (r.ctor (.elemEnc v)) s) s (.bytes out)) ∧
    (∀ v e, HasFields r.comp v → FirstFails v e → gives (exec (r.ctor (.elemEnc v)) s) s (.err e))

/-- The monitor types 1 to 11 and their rules (R194 to R204). -/
def monitorRows : List Row :=
  [{ ctor := .mSpNa1, ti := 1, w := 1,
     comp := [(.siq, .siq, 0, 1)] },
   { ctor := .mSpTa1, ti := 2, w := 4,
     comp := [(.siq, .siq, 0, 1), (.cp24, .time, 1, 4)] },
   { ctor := .mDpNa1, ti := 3, w := 1,
     comp := [(.diq, .diq, 0, 1)] },
   { ctor := .mDpTa1, ti := 4, w := 4,
     comp := [(.diq, .diq, 0, 1), (.cp24, .time, 1, 4)] },
   { ctor := .mStNa1, ti := 5, w := 2,
     comp := [(.vti, .vti, 0, 1), (.qds, .qds, 1, 2)] },
   { ctor := .mStTa1, ti := 6, w := 5,
     comp := [(.vti, .vti, 0, 1), (.qds, .qds, 1, 2), (.cp24, .time, 2, 5)] },
   { ctor := .mBoNa1, ti := 7, w := 5,
     comp := [(.bsi, .bsi, 0, 4), (.qds, .qds, 4, 5)] },
   { ctor := .mBoTa1, ti := 8, w := 8,
     comp := [(.bsi, .bsi, 0, 4), (.qds, .qds, 4, 5), (.cp24, .time, 5, 8)] },
   { ctor := .mMeNa1, ti := 9, w := 3,
     comp := [(.nva, .nva, 0, 2), (.qds, .qds, 2, 3)] },
   { ctor := .mMeTa1, ti := 10, w := 6,
     comp := [(.nva, .nva, 0, 2), (.qds, .qds, 2, 3), (.cp24, .time, 3, 6)] },
   { ctor := .mMeNb1, ti := 11, w := 3,
     comp := [(.sva, .sva, 0, 2), (.qds, .qds, 2, 3)] }]

/-- The monitor types 12 to 21 (R205 to R214). -/
def monitorMoreRows : List Row :=
  [{ ctor := .mMeTb1, ti := 12, w := 6,
     comp := [(.sva, .sva, 0, 2), (.qds, .qds, 2, 3), (.cp24, .time, 3, 6)] },
   { ctor := .mMeNc1, ti := 13, w := 5,
     comp := [(.r32, .r32, 0, 4), (.qds, .qds, 4, 5)] },
   { ctor := .mMeTc1, ti := 14, w := 8,
     comp := [(.r32, .r32, 0, 4), (.qds, .qds, 4, 5), (.cp24, .time, 5, 8)] },
   { ctor := .mItNa1, ti := 15, w := 5,
     comp := [(.bcr, .bcr, 0, 5)] },
   { ctor := .mItTa1, ti := 16, w := 8,
     comp := [(.bcr, .bcr, 0, 5), (.cp24, .time, 5, 8)] },
   { ctor := .mEpTa1, ti := 17, w := 6,
     comp := [(.sep, .sep, 0, 1), (.cp16, .elapsed, 1, 3), (.cp24, .time, 3, 6)] },
   { ctor := .mEpTb1, ti := 18, w := 7,
     comp := [(.spe, .spe, 0, 1), (.qdp, .qdp, 1, 2), (.cp16, .duration, 2, 4), (.cp24, .time, 4, 7)] },
   { ctor := .mEpTc1, ti := 19, w := 7,
     comp := [(.oci, .oci, 0, 1), (.qdp, .qdp, 1, 2), (.cp16, .operating, 2, 4), (.cp24, .time, 4, 7)] },
   { ctor := .mPsNa1, ti := 20, w := 5,
     comp := [(.scd, .scd, 0, 4), (.qds, .qds, 4, 5)] },
   { ctor := .mMeNd1, ti := 21, w := 2,
     comp := [(.nva, .nva, 0, 2)] }]

/-- The monitor types with a CP56Time2a tag (R215 to R225). -/
def monitorTimeRows : List Row :=
  [{ ctor := .mSpTb1, ti := 30, w := 8,
     comp := [(.siq, .siq, 0, 1), (.cp56, .time, 1, 8)] },
   { ctor := .mDpTb1, ti := 31, w := 8,
     comp := [(.diq, .diq, 0, 1), (.cp56, .time, 1, 8)] },
   { ctor := .mStTb1, ti := 32, w := 9,
     comp := [(.vti, .vti, 0, 1), (.qds, .qds, 1, 2), (.cp56, .time, 2, 9)] },
   { ctor := .mBoTb1, ti := 33, w := 12,
     comp := [(.bsi, .bsi, 0, 4), (.qds, .qds, 4, 5), (.cp56, .time, 5, 12)] },
   { ctor := .mMeTd1, ti := 34, w := 10,
     comp := [(.nva, .nva, 0, 2), (.qds, .qds, 2, 3), (.cp56, .time, 3, 10)] },
   { ctor := .mMeTe1, ti := 35, w := 10,
     comp := [(.sva, .sva, 0, 2), (.qds, .qds, 2, 3), (.cp56, .time, 3, 10)] },
   { ctor := .mMeTf1, ti := 36, w := 12,
     comp := [(.r32, .r32, 0, 4), (.qds, .qds, 4, 5), (.cp56, .time, 5, 12)] },
   { ctor := .mItTb1, ti := 37, w := 12,
     comp := [(.bcr, .bcr, 0, 5), (.cp56, .time, 5, 12)] },
   { ctor := .mEpTd1, ti := 38, w := 10,
     comp := [(.sep, .sep, 0, 1), (.cp16, .elapsed, 1, 3), (.cp56, .time, 3, 10)] },
   { ctor := .mEpTe1, ti := 39, w := 11,
     comp := [(.spe, .spe, 0, 1), (.qdp, .qdp, 1, 2), (.cp16, .duration, 2, 4), (.cp56, .time, 4, 11)] },
   { ctor := .mEpTf1, ti := 40, w := 11,
     comp := [(.oci, .oci, 0, 1), (.qdp, .qdp, 1, 2), (.cp16, .operating, 2, 4), (.cp56, .time, 4, 11)] }]

/-- The process commands (R226 to R232). -/
def commandRows : List Row :=
  [{ ctor := .cScNa1, ti := 45, w := 1,
     comp := [(.sco, .sco, 0, 1)] },
   { ctor := .cDcNa1, ti := 46, w := 1,
     comp := [(.dco, .dco, 0, 1)] },
   { ctor := .cRcNa1, ti := 47, w := 1,
     comp := [(.rco, .rco, 0, 1)] },
   { ctor := .cSeNa1, ti := 48, w := 3,
     comp := [(.nva, .nva, 0, 2), (.qos, .qos, 2, 3)] },
   { ctor := .cSeNb1, ti := 49, w := 3,
     comp := [(.sva, .sva, 0, 2), (.qos, .qos, 2, 3)] },
   { ctor := .cSeNc1, ti := 50, w := 5,
     comp := [(.r32, .r32, 0, 4), (.qos, .qos, 4, 5)] },
   { ctor := .cBoNa1, ti := 51, w := 4,
     comp := [(.bsi, .bsi, 0, 4)] }]

/-- The process commands with a time tag (R233 to R239). -/
def commandTimeRows : List Row :=
  [{ ctor := .cScTa1, ti := 58, w := 8,
     comp := [(.sco, .sco, 0, 1), (.cp56, .time, 1, 8)] },
   { ctor := .cDcTa1, ti := 59, w := 8,
     comp := [(.dco, .dco, 0, 1), (.cp56, .time, 1, 8)] },
   { ctor := .cRcTa1, ti := 60, w := 8,
     comp := [(.rco, .rco, 0, 1), (.cp56, .time, 1, 8)] },
   { ctor := .cSeTa1, ti := 61, w := 10,
     comp := [(.nva, .nva, 0, 2), (.qos, .qos, 2, 3), (.cp56, .time, 3, 10)] },
   { ctor := .cSeTb1, ti := 62, w := 10,
     comp := [(.sva, .sva, 0, 2), (.qos, .qos, 2, 3), (.cp56, .time, 3, 10)] },
   { ctor := .cSeTc1, ti := 63, w := 12,
     comp := [(.r32, .r32, 0, 4), (.qos, .qos, 4, 5), (.cp56, .time, 5, 12)] },
   { ctor := .cBoTa1, ti := 64, w := 11,
     comp := [(.bsi, .bsi, 0, 4), (.cp56, .time, 4, 11)] }]

/-- The system types (R240 to R248). -/
def systemRows : List Row :=
  [{ ctor := .mEiNa1, ti := 70, w := 1,
     comp := [(.coi, .coi, 0, 1)] },
   { ctor := .cIcNa1, ti := 100, w := 1,
     comp := [(.qoi, .qoi, 0, 1)] },
   { ctor := .cCiNa1, ti := 101, w := 1,
     comp := [(.qcc, .qcc, 0, 1)] },
   { ctor := .cRdNa1, ti := 102, w := 0,
     comp := [] },
   { ctor := .cCsNa1, ti := 103, w := 7,
     comp := [(.cp56, .time, 0, 7)] },
   { ctor := .cTsNa1, ti := 104, w := 2,
     comp := [(.fbp, .fbp, 0, 2)] },
   { ctor := .cRpNa1, ti := 105, w := 1,
     comp := [(.qrp, .qrp, 0, 1)] },
   { ctor := .cCdNa1, ti := 106, w := 2,
     comp := [(.cp16, .delay, 0, 2)] },
   { ctor := .cTsTa1, ti := 107, w := 9,
     comp := [(.tsc, .tsc, 0, 2), (.cp56, .time, 2, 9)] }]

/-- The parameter and file types (R249 to R259). -/
def parameterFileRows : List Row :=
  [{ ctor := .pMeNa1, ti := 110, w := 3,
     comp := [(.nva, .nva, 0, 2), (.qpm, .qpm, 2, 3)] },
   { ctor := .pMeNb1, ti := 111, w := 3,
     comp := [(.sva, .sva, 0, 2), (.qpm, .qpm, 2, 3)] },
   { ctor := .pMeNc1, ti := 112, w := 5,
     comp := [(.r32, .r32, 0, 4), (.qpm, .qpm, 4, 5)] },
   { ctor := .pAcNa1, ti := 113, w := 1,
     comp := [(.qpa, .qpa, 0, 1)] },
   { ctor := .fFrNa1, ti := 120, w := 6,
     comp := [(.nof, .nof, 0, 2), (.lof, .lof, 2, 5), (.frq, .frq, 5, 6)] },
   { ctor := .fSrNa1, ti := 121, w := 7,
     comp := [(.nof, .nof, 0, 2), (.nos, .nos, 2, 3), (.lof, .lof, 3, 6), (.srq, .srq, 6, 7)] },
   { ctor := .fScNa1, ti := 122, w := 4,
     comp := [(.nof, .nof, 0, 2), (.nos, .nos, 2, 3), (.scq, .scq, 3, 4)] },
   { ctor := .fLsNa1, ti := 123, w := 5,
     comp := [(.nof, .nof, 0, 2), (.nos, .nos, 2, 3), (.lsq, .lsq, 3, 4), (.chs, .chs, 4, 5)] },
   { ctor := .fAfNa1, ti := 124, w := 4,
     comp := [(.nof, .nof, 0, 2), (.nos, .nos, 2, 3), (.afq, .afq, 3, 4)] },
   { ctor := .fDrTa1, ti := 126, w := 13,
     comp := [(.nof, .nof, 0, 2), (.lof, .lof, 2, 5), (.sof, .sof, 5, 6), (.cp56, .time, 6, 13)] },
   { ctor := .fScNb1, ti := 127, w := 16,
     comp := [(.nof, .nof, 0, 2), (.cp56, .start, 2, 9), (.cp56, .stop, 9, 16)] }]

/-- The 66 supported type identifiers (R84, R193). -/
def supported : List Byte :=
  [1, 2, 3, 4, 5, 6, 7, 8, 9, 10, 11, 12, 13, 14, 15, 16, 17, 18, 19, 20, 21, 30, 31, 32, 33, 34, 35, 36, 37, 38, 39, 40,
   45, 46, 47, 48, 49, 50, 51, 58, 59, 60, 61, 62, 63, 64, 70, 100, 101, 102, 103, 104, 105, 106, 107, 110, 111, 112, 113,
   120, 121, 122, 123, 124, 126, 127]

/-- The six U rows with their actions and codes (R76). -/
def uRows : List (UAct × (UOp → Instr) × Byte) :=
  [(.startdtAct, .uStartdtAct, 0x07), (.startdtCon, .uStartdtCon, 0x0B), (.stopdtAct, .uStopdtAct, 0x13),
   (.stopdtCon, .uStopdtCon, 0x23), (.testfrAct, .uTestfrAct, 0x43), (.testfrCon, .uTestfrCon, 0x83)]

/-- A frame slice: the delimiter, a length byte and as many bytes as it says (R70). -/
def IsSlice (f : Span) : Prop := ∃ L : Byte, ∃ tl : Span, f = 0x68 :: L :: tl ∧ tl.length = L.toNat

/-- The bits of an APCI that carry no field are 0 (R88). -/
def ApciIgnoredZero (c : Span) : Prop :=
  ((at' c 0).getLsbD 0 = false ∧ (at' c 2).getLsbD 0 = false) ∨
  (at' c 0 = 0x01 ∧ at' c 1 = 0 ∧ (at' c 2).getLsbD 0 = false) ∨
  ((at' c 0).getLsbD 0 = true ∧ (at' c 0).getLsbD 1 = true ∧ at' c 1 = 0 ∧ at' c 2 = 0 ∧ at' c 3 = 0)

/-- The header length of R77. -/
def hdr (c : Cfg) : Nat := 2 + c.cotW + c.caW

/-- Where element value i of an area starts in the ASDU (R275, R276): k address bytes per object in set layout, k once in
sequence layout; w bytes per element value. -/
def valueAt (c : Cfg) (sq : Bool) (w i : Nat) : Nat :=
  if sq then hdr c + c.ioaW + i * w else hdr c + i * (c.ioaW + w) + c.ioaW

/-- The bytes of element value i of the ASDU A. -/
def valueSpan (c : Cfg) (sq : Bool) (w : Nat) (A : Span) (i : Nat) : Span :=
  slice A (valueAt c sq w i) (valueAt c sq w i + w)

/-- The address of object i of the ASDU A (R275, R276, R279). -/
def addressOf (c : Cfg) (sq : Bool) (w : Nat) (A : Span) (i : Nat) : Nat :=
  if sq then littleEndian (slice A (hdr c) (hdr c + c.ioaW)) + i
  else littleEndian (slice A (hdr c + i * (c.ioaW + w)) (hdr c + i * (c.ioaW + w) + c.ioaW))

/-- The length of an ASDU of n objects of width w (R82, R83, R285). -/
def asduLength (c : Cfg) (sq : Bool) (n w : Nat) : Nat :=
  hdr c + if sq then c.ioaW + n * w else n * (c.ioaW + w)

/-- Every reserved element bit of the ASDU A of a supported type is 0 (R286). -/
def AsduReservedZero (c : Cfg) (A : Span) : Prop :=
  ∀ lay, layoutOf (at' A 0) = some lay → ∀ i < bits (at' A 1) 0 7,
    ValueReservedZero lay (valueSpan c ((at' A 1).getLsbD 7) (layoutWidth lay) A i)

/-- The area length m divides into n objects with k address bytes (R275, R276). -/
def divides (sq : Bool) (m n k : Nat) : Prop := if sq then k ≤ m ∧ n ∣ m - k else n ∣ m ∧ k ≤ m / n

/-- The element width that a division yields (R275, R276). -/
def derivedWidth (sq : Bool) (m n k : Nat) : Nat := if sq then (m - k) / n else m / n - k

/-- n and the object list agree (X2 otherwise, R280). -/
def CountOk (a : AsduBody) : Prop := 1 ≤ a.n ∧ a.n ≤ 127 ∧ a.objs.length = a.n

/-- The originator address is present exactly when the profile carries one, and fits its byte (R282). -/
def OaOk (c : Cfg) (x : Cot) : Prop := if c.cotW = 2 then ∃ a, x.oa = some a ∧ a < 256 else x.oa = none

/-- The header of an ASDU record encodes (R280 to R282). -/
def HeaderOk (c : Cfg) (a : AsduBody) : Prop :=
  CountOk a ∧ a.cot.cause < 64 ∧ OaOk c a.cot ∧ a.ca < 2 ^ (8 * c.caW)

/-- The values of the first i objects encode. -/
def ValuesEncodeBelow (a : AsduBody) (i : Nat) : Prop :=
  ∀ j < i, ∀ p, a.objs[j]? = some p → ∃ S, EncodesTo p.val S

/-- Whether the operands of a request are values of their types (R48, R191, R360). -/
def wellTyped : Request → Bool
  | .elemEnc t v => (layoutOf t).all fun lay => typedRecord lay v
  | .asduEnc a => typedAsdu a
  | .compose p => p.asdu.all typedAsdu
  | .linkRx p =>
    p.asdu.all typedAsdu &&
      match p.apci, p.asdu with
      | .i _ _, some _ => true
      | .s _, none => true
      | .u _, none => true
      | _, _ => false
  | .linkTxI a => typedAsdu a
  | .reset c => decide c.Ok
  | _ => true

/-- The request is a `LINK_TX_I` and its result is a frame. -/
def sentI : Request × Response → Bool
  | (.linkTxI _, .bytes _) => true
  | _ => false

/-- The request is a `LINK_TX_S` and its result is a frame. -/
def sentS : Request × Response → Bool
  | (.linkTxS, .bytes _) => true
  | _ => false

/-- The frames of a result of `FEED`. -/
def framesOf : Response → List Span
  | .frames fs _ => fs
  | _ => []

/-- The tail left by a split of X that ended with this status (R302, R304). -/
def tailOf (X : Span) : Status → Span
  | .error (.m2 p) => X.drop p
  | _ => []

end Sys2Proof.Claims

open Sys2Proof Sys2Proof.Machine Sys2Proof.Claims

/-! ### Element codecs -/

/-- R104, R105, R107, R113, R114: the five elements that carry the shared quality flags in bits 4 to 7 (R103).
Each decodes to the bits the rule names, encodes to a byte with those bits and its reserved bits 0, refuses a field
that does not fit (X1) and a span of another length (M11). -/
def Obligations.QualityElementsCodec : Prop :=
  (∀ b : Byte, elemDecode .qds [b] = .ok (.qds
    { ov := b.getLsbD 0, bl := b.getLsbD 4, sb := b.getLsbD 5, nt := b.getLsbD 6, iv := b.getLsbD 7 })) ∧
  (∀ v : QDS, ∃ b : Byte, elemEncode (.qds v) = .ok [b] ∧
    b.getLsbD 0 = v.ov ∧ b.getLsbD 4 = v.bl ∧ b.getLsbD 5 = v.sb ∧ b.getLsbD 6 = v.nt ∧ b.getLsbD 7 = v.iv ∧ b.getLsbD 1 = false ∧ b.getLsbD 2 = false ∧ b.getLsbD 3 = false) ∧
  (∀ S : Span, S.length ≠ 1 → elemDecode .qds S = .error (spanErr .qds S)) ∧
  (∀ b : Byte, elemDecode .siq [b] = .ok (.siq
    { spi := b.getLsbD 0, bl := b.getLsbD 4, sb := b.getLsbD 5, nt := b.getLsbD 6, iv := b.getLsbD 7 })) ∧
  (∀ v : SIQ, ∃ b : Byte, elemEncode (.siq v) = .ok [b] ∧
    b.getLsbD 0 = v.spi ∧ b.getLsbD 4 = v.bl ∧ b.getLsbD 5 = v.sb ∧ b.getLsbD 6 = v.nt ∧ b.getLsbD 7 = v.iv ∧ b.getLsbD 1 = false ∧ b.getLsbD 2 = false ∧ b.getLsbD 3 = false) ∧
  (∀ S : Span, S.length ≠ 1 → elemDecode .siq S = .error (spanErr .siq S)) ∧
  (∀ b : Byte, elemDecode .diq [b] = .ok (.diq
    { dpi := bits b 0 2, bl := b.getLsbD 4, sb := b.getLsbD 5, nt := b.getLsbD 6, iv := b.getLsbD 7 })) ∧
  (∀ v : DIQ, v.dpi < 4 → ∃ b : Byte, elemEncode (.diq v) = .ok [b] ∧
    bits b 0 2 = v.dpi ∧ b.getLsbD 4 = v.bl ∧ b.getLsbD 5 = v.sb ∧ b.getLsbD 6 = v.nt ∧ b.getLsbD 7 = v.iv ∧ b.getLsbD 2 = false ∧ b.getLsbD 3 = false) ∧
  (∀ v : DIQ, 4 ≤ v.dpi → elemEncode (.diq v) = .error (rangeErr .diq .dpi)) ∧
  (∀ S : Span, S.length ≠ 1 → elemDecode .diq S = .error (spanErr .diq S)) ∧
  (∀ b : Byte, elemDecode .qdp [b] = .ok (.qdp
    { ei := b.getLsbD 3, bl := b.getLsbD 4, sb := b.getLsbD 5, nt := b.getLsbD 6, iv := b.getLsbD 7 })) ∧
  (∀ v : QDP, ∃ b : Byte, elemEncode (.qdp v) = .ok [b] ∧
    b.getLsbD 3 = v.ei ∧ b.getLsbD 4 = v.bl ∧ b.getLsbD 5 = v.sb ∧ b.getLsbD 6 = v.nt ∧ b.getLsbD 7 = v.iv ∧ b.getLsbD 0 = false ∧ b.getLsbD 1 = false ∧ b.getLsbD 2 = false) ∧
  (∀ S : Span, S.length ≠ 1 → elemDecode .qdp S = .error (spanErr .qdp S)) ∧
  (∀ b : Byte, elemDecode .sep [b] = .ok (.sep
    { es := bits b 0 2, ei := b.getLsbD 3, bl := b.getLsbD 4, sb := b.getLsbD 5, nt := b.getLsbD 6, iv := b.getLsbD 7 })) ∧
  (∀ v : SEP, v.es < 4 → ∃ b : Byte, elemEncode (.sep v) = .ok [b] ∧
    bits b 0 2 = v.es ∧ b.getLsbD 3 = v.ei ∧ b.getLsbD 4 = v.bl ∧ b.getLsbD 5 = v.sb ∧ b.getLsbD 6 = v.nt ∧ b.getLsbD 7 = v.iv ∧ b.getLsbD 2 = false) ∧
  (∀ v : SEP, 4 ≤ v.es → elemEncode (.sep v) = .error (rangeErr .sep .es)) ∧
  (∀ S : Span, S.length ≠ 1 → elemDecode .sep S = .error (spanErr .sep S))

/-- R109, R110, R112, R115, R116: VTI, BSI, SCD, SPE and OCI, decode, encode, X1 and M11. -/
def Obligations.StatusElementsCodec : Prop :=
  (∀ b : Byte, elemDecode .vti [b] = .ok (.vti { value := (b.extractLsb' 0 7).toInt, t := b.getLsbD 7 })) ∧
  (∀ v : VTI, -64 ≤ v.value → v.value ≤ 63 → ∃ b : Byte, elemEncode (.vti v) = .ok [b] ∧
    (b.extractLsb' 0 7).toInt = v.value ∧ b.getLsbD 7 = v.t) ∧
  (∀ v : VTI, v.value < -64 ∨ 63 < v.value → elemEncode (.vti v) = .error (rangeErr .vti .value)) ∧
  (∀ S : Span, S.length ≠ 1 → elemDecode .vti S = .error (spanErr .vti S)) ∧
  (∀ b0 b1 b2 b3 : Byte, elemDecode .bsi [b0, b1, b2, b3] = .ok (.bsi (b3 ++ b2 ++ b1 ++ b0).toNat)) ∧
  (∀ v : Nat, v < 2 ^ 32 → ∃ b0 b1 b2 b3 : Byte, elemEncode (.bsi v) = .ok [b0, b1, b2, b3] ∧ (b3 ++ b2 ++ b1 ++ b0).toNat = v) ∧
  (∀ v : Nat, 2 ^ 32 ≤ v → elemEncode (.bsi v) = .error (rangeErr .bsi .value)) ∧
  (∀ S : Span, S.length ≠ 4 → elemDecode .bsi S = .error (spanErr .bsi S)) ∧
  (∀ b0 b1 b2 b3 : Byte, elemDecode .scd [b0, b1, b2, b3] =
    .ok (.scd { st := (b1 ++ b0).toNat, cd := (b3 ++ b2).toNat })) ∧
  (∀ v : SCD, v.st < 2 ^ 16 → v.cd < 2 ^ 16 → ∃ b0 b1 b2 b3 : Byte, elemEncode (.scd v) = .ok [b0, b1, b2, b3] ∧
    (b1 ++ b0).toNat = v.st ∧ (b3 ++ b2).toNat = v.cd) ∧
  (∀ v : SCD, 2 ^ 16 ≤ v.st ∨ 2 ^ 16 ≤ v.cd → ∃ f : SubField,
    (f = .st ∧ 2 ^ 16 ≤ v.st ∨ f = .cd ∧ 2 ^ 16 ≤ v.cd) ∧ elemEncode (.scd v) = .error (rangeErr .scd f)) ∧
  (∀ S : Span, S.length ≠ 4 → elemDecode .scd S = .error (spanErr .scd S)) ∧
  (∀ b : Byte, elemDecode .spe [b] = .ok (.spe
    { gs := b.getLsbD 0, sl1 := b.getLsbD 1, sl2 := b.getLsbD 2, sl3 := b.getLsbD 3, sie := b.getLsbD 4, srd := b.getLsbD 5 })) ∧
  (∀ v : SPE, ∃ b : Byte, elemEncode (.spe v) = .ok [b] ∧
    b.getLsbD 0 = v.gs ∧ b.getLsbD 1 = v.sl1 ∧ b.getLsbD 2 = v.sl2 ∧ b.getLsbD 3 = v.sl3 ∧ b.getLsbD 4 = v.sie ∧ b.getLsbD 5 = v.srd ∧ b.getLsbD 6 = false ∧ b.getLsbD 7 = false) ∧
  (∀ S : Span, S.length ≠ 1 → elemDecode .spe S = .error (spanErr .spe S)) ∧
  (∀ b : Byte, elemDecode .oci [b] = .ok (.oci
    { gc := b.getLsbD 0, cl1 := b.getLsbD 1, cl2 := b.getLsbD 2, cl3 := b.getLsbD 3 })) ∧
  (∀ v : OCI, ∃ b : Byte, elemEncode (.oci v) = .ok [b] ∧
    b.getLsbD 0 = v.gc ∧ b.getLsbD 1 = v.cl1 ∧ b.getLsbD 2 = v.cl2 ∧ b.getLsbD 3 = v.cl3 ∧ b.getLsbD 4 = false ∧ b.getLsbD 5 = false ∧ b.getLsbD 6 = false ∧ b.getLsbD 7 = false) ∧
  (∀ S : Span, S.length ≠ 1 → elemDecode .oci S = .error (spanErr .oci S))

/-- R130, R132, R134, R136: NVA and SVA big-endian, R32 and BCR little-endian, decode, encode, X1 and M11. -/
def Obligations.ValueElementsCodec : Prop :=
  (∀ b0 b1 : Byte, elemDecode .nva [b0, b1] = .ok (.nva (b0 ++ b1).toInt)) ∧
  (∀ x : Int, -32768 ≤ x → x ≤ 32767 → ∃ b0 b1 : Byte, elemEncode (.nva x) = .ok [b0, b1] ∧ (b0 ++ b1).toInt = x) ∧
  (∀ x : Int, x < -32768 ∨ 32767 < x → elemEncode (.nva x) = .error (rangeErr .nva .raw)) ∧
  (∀ S : Span, S.length ≠ 2 → elemDecode .nva S = .error (spanErr .nva S)) ∧
  (∀ b0 b1 : Byte, elemDecode .sva [b0, b1] = .ok (.sva (b0 ++ b1).toInt)) ∧
  (∀ x : Int, -32768 ≤ x → x ≤ 32767 → ∃ b0 b1 : Byte, elemEncode (.sva x) = .ok [b0, b1] ∧ (b0 ++ b1).toInt = x) ∧
  (∀ x : Int, x < -32768 ∨ 32767 < x → elemEncode (.sva x) = .error (rangeErr .sva .value)) ∧
  (∀ S : Span, S.length ≠ 2 → elemDecode .sva S = .error (spanErr .sva S)) ∧
  (∀ b0 b1 b2 b3 : Byte, elemDecode .r32 [b0, b1, b2, b3] = .ok (.r32 (b3 ++ b2 ++ b1 ++ b0).toNat)) ∧
  (∀ v : Nat, v < 2 ^ 32 → ∃ b0 b1 b2 b3 : Byte, elemEncode (.r32 v) = .ok [b0, b1, b2, b3] ∧ (b3 ++ b2 ++ b1 ++ b0).toNat = v) ∧
  (∀ v : Nat, 2 ^ 32 ≤ v → elemEncode (.r32 v) = .error (rangeErr .r32 .value)) ∧
  (∀ S : Span, S.length ≠ 4 → elemDecode .r32 S = .error (spanErr .r32 S)) ∧
  (∀ b0 b1 b2 b3 b : Byte, elemDecode .bcr [b0, b1, b2, b3, b] = .ok (.bcr
    { counter := (b3 ++ b2 ++ b1 ++ b0).toInt, sq := bits b 0 5, cy := b.getLsbD 5, ca := b.getLsbD 6,
      iv := b.getLsbD 7 })) ∧
  (∀ v : BCR, -2 ^ 31 ≤ v.counter → v.counter < 2 ^ 31 → v.sq < 32 → ∃ b0 b1 b2 b3 b : Byte,
    elemEncode (.bcr v) = .ok [b0, b1, b2, b3, b] ∧ (b3 ++ b2 ++ b1 ++ b0).toInt = v.counter ∧ bits b 0 5 = v.sq ∧
    b.getLsbD 5 = v.cy ∧ b.getLsbD 6 = v.ca ∧ b.getLsbD 7 = v.iv) ∧
  (∀ v : BCR, v.counter < -2 ^ 31 ∨ 2 ^ 31 ≤ v.counter ∨ 32 ≤ v.sq → ∃ f : SubField,
    (f = .counter ∧ (v.counter < -2 ^ 31 ∨ 2 ^ 31 ≤ v.counter) ∨ f = .sq ∧ 32 ≤ v.sq) ∧
    elemEncode (.bcr v) = .error (rangeErr .bcr f)) ∧
  (∀ S : Span, S.length ≠ 5 → elemDecode .bcr S = .error (spanErr .bcr S))

/-- R141, R142, R143, R144, R146, R147, R150: the command and system qualifiers, decode, encode, X1 and M11. -/
def Obligations.CommandElementsCodec : Prop :=
  (∀ b : Byte, elemDecode .sco [b] = .ok (.sco
    { scs := b.getLsbD 0, qu := bits b 2 5, se := b.getLsbD 7 })) ∧
  (∀ v : SCO, v.qu < 32 → ∃ b : Byte, elemEncode (.sco v) = .ok [b] ∧
    b.getLsbD 0 = v.scs ∧ bits b 2 5 = v.qu ∧ b.getLsbD 7 = v.se ∧ b.getLsbD 1 = false) ∧
  (∀ v : SCO, 32 ≤ v.qu → elemEncode (.sco v) = .error (rangeErr .sco .qu)) ∧
  (∀ S : Span, S.length ≠ 1 → elemDecode .sco S = .error (spanErr .sco S)) ∧
  (∀ b : Byte, elemDecode .dco [b] = .ok (.dco
    { dcs := bits b 0 2, qu := bits b 2 5, se := b.getLsbD 7 })) ∧
  (∀ v : DCO, v.dcs < 4 → v.qu < 32 → ∃ b : Byte, elemEncode (.dco v) = .ok [b] ∧
    bits b 0 2 = v.dcs ∧ bits b 2 5 = v.qu ∧ b.getLsbD 7 = v.se) ∧
  (∀ v : DCO, 4 ≤ v.dcs ∨ 32 ≤ v.qu → ∃ f : SubField,
    (f = .dcs ∧ 4 ≤ v.dcs ∨ f = .qu ∧ 32 ≤ v.qu) ∧ elemEncode (.dco v) = .error (rangeErr .dco f)) ∧
  (∀ S : Span, S.length ≠ 1 → elemDecode .dco S = .error (spanErr .dco S)) ∧
  (∀ b : Byte, elemDecode .rco [b] = .ok (.rco
    { rcs := bits b 0 2, qu := bits b 2 5, se := b.getLsbD 7 })) ∧
  (∀ v : RCO, v.rcs < 4 → v.qu < 32 → ∃ b : Byte, elemEncode (.rco v) = .ok [b] ∧
    bits b 0 2 = v.rcs ∧ bits b 2 5 = v.qu ∧ b.getLsbD 7 = v.se) ∧
  (∀ v : RCO, 4 ≤ v.rcs ∨ 32 ≤ v.qu → ∃ f : SubField,
    (f = .rcs ∧ 4 ≤ v.rcs ∨ f = .qu ∧ 32 ≤ v.qu) ∧ elemEncode (.rco v) = .error (rangeErr .rco f)) ∧
  (∀ S : Span, S.length ≠ 1 → elemDecode .rco S = .error (spanErr .rco S)) ∧
  (∀ b : Byte, elemDecode .qos [b] = .ok (.qos
    { ql := bits b 0 7, se := b.getLsbD 7 })) ∧
  (∀ v : QOS, v.ql < 128 → ∃ b : Byte, elemEncode (.qos v) = .ok [b] ∧
    bits b 0 7 = v.ql ∧ b.getLsbD 7 = v.se) ∧
  (∀ v : QOS, 128 ≤ v.ql → elemEncode (.qos v) = .error (rangeErr .qos .ql)) ∧
  (∀ S : Span, S.length ≠ 1 → elemDecode .qos S = .error (spanErr .qos S)) ∧
  (∀ b : Byte, elemDecode .qcc [b] = .ok (.qcc
    { rqt := bits b 0 6, frz := bits b 6 2 })) ∧
  (∀ v : QCC, v.rqt < 64 → v.frz < 4 → ∃ b : Byte, elemEncode (.qcc v) = .ok [b] ∧
    bits b 0 6 = v.rqt ∧ bits b 6 2 = v.frz) ∧
  (∀ v : QCC, 64 ≤ v.rqt ∨ 4 ≤ v.frz → ∃ f : SubField,
    (f = .rqt ∧ 64 ≤ v.rqt ∨ f = .frz ∧ 4 ≤ v.frz) ∧ elemEncode (.qcc v) = .error (rangeErr .qcc f)) ∧
  (∀ S : Span, S.length ≠ 1 → elemDecode .qcc S = .error (spanErr .qcc S)) ∧
  (∀ b : Byte, elemDecode .qpm [b] = .ok (.qpm
    { kpa := bits b 0 6, lpc := b.getLsbD 6, pop := b.getLsbD 7 })) ∧
  (∀ v : QPM, v.kpa < 64 → ∃ b : Byte, elemEncode (.qpm v) = .ok [b] ∧
    bits b 0 6 = v.kpa ∧ b.getLsbD 6 = v.lpc ∧ b.getLsbD 7 = v.pop) ∧
  (∀ v : QPM, 64 ≤ v.kpa → elemEncode (.qpm v) = .error (rangeErr .qpm .kpa)) ∧
  (∀ S : Span, S.length ≠ 1 → elemDecode .qpm S = .error (spanErr .qpm S)) ∧
  (∀ b : Byte, elemDecode .coi [b] = .ok (.coi
    { cause := bits b 0 7, bs1 := b.getLsbD 7 })) ∧
  (∀ v : COI, v.cause < 128 → ∃ b : Byte, elemEncode (.coi v) = .ok [b] ∧
    bits b 0 7 = v.cause ∧ b.getLsbD 7 = v.bs1) ∧
  (∀ v : COI, 128 ≤ v.cause → elemEncode (.coi v) = .error (rangeErr .coi .cause)) ∧
  (∀ S : Span, S.length ≠ 1 → elemDecode .coi S = .error (spanErr .coi S))

/-- R145, R148, R149, R151, R152, R160, R161, R162, R163, R164, R168: the elements that are one little-endian number of
one, two or three bytes. -/
def Obligations.NumberElementsCodec : Prop :=
  (∀ b0 : Byte, elemDecode .qoi [b0] = .ok (.qoi b0.toNat)) ∧
  (∀ v : Nat, v < 2 ^ 8 → ∃ b0 : Byte, elemEncode (.qoi v) = .ok [b0] ∧ b0.toNat = v) ∧
  (∀ v : Nat, 2 ^ 8 ≤ v → elemEncode (.qoi v) = .error (rangeErr .qoi .value)) ∧
  (∀ S : Span, S.length ≠ 1 → elemDecode .qoi S = .error (spanErr .qoi S)) ∧
  (∀ b0 : Byte, elemDecode .qpa [b0] = .ok (.qpa b0.toNat)) ∧
  (∀ v : Nat, v < 2 ^ 8 → ∃ b0 : Byte, elemEncode (.qpa v) = .ok [b0] ∧ b0.toNat = v) ∧
  (∀ v : Nat, 2 ^ 8 ≤ v → elemEncode (.qpa v) = .error (rangeErr .qpa .value)) ∧
  (∀ S : Span, S.length ≠ 1 → elemDecode .qpa S = .error (spanErr .qpa S)) ∧
  (∀ b0 : Byte, elemDecode .qrp [b0] = .ok (.qrp b0.toNat)) ∧
  (∀ v : Nat, v < 2 ^ 8 → ∃ b0 : Byte, elemEncode (.qrp v) = .ok [b0] ∧ b0.toNat = v) ∧
  (∀ v : Nat, 2 ^ 8 ≤ v → elemEncode (.qrp v) = .error (rangeErr .qrp .value)) ∧
  (∀ S : Span, S.length ≠ 1 → elemDecode .qrp S = .error (spanErr .qrp S)) ∧
  (∀ b0 : Byte, elemDecode .nos [b0] = .ok (.nos b0.toNat)) ∧
  (∀ v : Nat, v < 2 ^ 8 → ∃ b0 : Byte, elemEncode (.nos v) = .ok [b0] ∧ b0.toNat = v) ∧
  (∀ v : Nat, 2 ^ 8 ≤ v → elemEncode (.nos v) = .error (rangeErr .nos .value)) ∧
  (∀ S : Span, S.length ≠ 1 → elemDecode .nos S = .error (spanErr .nos S)) ∧
  (∀ b0 : Byte, elemDecode .los [b0] = .ok (.los b0.toNat)) ∧
  (∀ v : Nat, v < 2 ^ 8 → ∃ b0 : Byte, elemEncode (.los v) = .ok [b0] ∧ b0.toNat = v) ∧
  (∀ v : Nat, 2 ^ 8 ≤ v → elemEncode (.los v) = .error (rangeErr .los .value)) ∧
  (∀ S : Span, S.length ≠ 1 → elemDecode .los S = .error (spanErr .los S)) ∧
  (∀ b0 : Byte, elemDecode .chs [b0] = .ok (.chs b0.toNat)) ∧
  (∀ v : Nat, v < 2 ^ 8 → ∃ b0 : Byte, elemEncode (.chs v) = .ok [b0] ∧ b0.toNat = v) ∧
  (∀ v : Nat, 2 ^ 8 ≤ v → elemEncode (.chs v) = .error (rangeErr .chs .value)) ∧
  (∀ S : Span, S.length ≠ 1 → elemDecode .chs S = .error (spanErr .chs S)) ∧
  (∀ b0 : Byte, elemDecode .lsq [b0] = .ok (.lsq b0.toNat)) ∧
  (∀ v : Nat, v < 2 ^ 8 → ∃ b0 : Byte, elemEncode (.lsq v) = .ok [b0] ∧ b0.toNat = v) ∧
  (∀ v : Nat, 2 ^ 8 ≤ v → elemEncode (.lsq v) = .error (rangeErr .lsq .value)) ∧
  (∀ S : Span, S.length ≠ 1 → elemDecode .lsq S = .error (spanErr .lsq S)) ∧
  (∀ b0 b1 : Byte, elemDecode .fbp [b0, b1] = .ok (.fbp (b1 ++ b0).toNat)) ∧
  (∀ v : Nat, v < 2 ^ 16 → ∃ b0 b1 : Byte, elemEncode (.fbp v) = .ok [b0, b1] ∧ (b1 ++ b0).toNat = v) ∧
  (∀ v : Nat, 2 ^ 16 ≤ v → elemEncode (.fbp v) = .error (rangeErr .fbp .value)) ∧
  (∀ S : Span, S.length ≠ 2 → elemDecode .fbp S = .error (spanErr .fbp S)) ∧
  (∀ b0 b1 : Byte, elemDecode .tsc [b0, b1] = .ok (.tsc (b1 ++ b0).toNat)) ∧
  (∀ v : Nat, v < 2 ^ 16 → ∃ b0 b1 : Byte, elemEncode (.tsc v) = .ok [b0, b1] ∧ (b1 ++ b0).toNat = v) ∧
  (∀ v : Nat, 2 ^ 16 ≤ v → elemEncode (.tsc v) = .error (rangeErr .tsc .value)) ∧
  (∀ S : Span, S.length ≠ 2 → elemDecode .tsc S = .error (spanErr .tsc S)) ∧
  (∀ b0 b1 : Byte, elemDecode .nof [b0, b1] = .ok (.nof (b1 ++ b0).toNat)) ∧
  (∀ v : Nat, v < 2 ^ 16 → ∃ b0 b1 : Byte, elemEncode (.nof v) = .ok [b0, b1] ∧ (b1 ++ b0).toNat = v) ∧
  (∀ v : Nat, 2 ^ 16 ≤ v → elemEncode (.nof v) = .error (rangeErr .nof .value)) ∧
  (∀ S : Span, S.length ≠ 2 → elemDecode .nof S = .error (spanErr .nof S)) ∧
  (∀ b0 b1 b2 : Byte, elemDecode .lof [b0, b1, b2] = .ok (.lof (b2 ++ b1 ++ b0).toNat)) ∧
  (∀ v : Nat, v < 2 ^ 24 → ∃ b0 b1 b2 : Byte, elemEncode (.lof v) = .ok [b0, b1, b2] ∧ (b2 ++ b1 ++ b0).toNat = v) ∧
  (∀ v : Nat, 2 ^ 24 ≤ v → elemEncode (.lof v) = .error (rangeErr .lof .value)) ∧
  (∀ S : Span, S.length ≠ 3 → elemDecode .lof S = .error (spanErr .lof S))

/-- R165, R166, R167, R169, R170: the file qualifiers, decode, encode, X1 and M11. -/
def Obligations.FileQualifiersCodec : Prop :=
  (∀ b : Byte, elemDecode .frq [b] = .ok (.frq
    { code := bits b 0 7, neg := b.getLsbD 7 })) ∧
  (∀ v : FRQ, v.code < 128 → ∃ b : Byte, elemEncode (.frq v) = .ok [b] ∧
    bits b 0 7 = v.code ∧ b.getLsbD 7 = v.neg) ∧
  (∀ v : FRQ, 128 ≤ v.code → elemEncode (.frq v) = .error (rangeErr .frq .code)) ∧
  (∀ S : Span, S.length ≠ 1 → elemDecode .frq S = .error (spanErr .frq S)) ∧
  (∀ b : Byte, elemDecode .srq [b] = .ok (.srq
    { code := bits b 0 7, notReady := b.getLsbD 7 })) ∧
  (∀ v : SRQ, v.code < 128 → ∃ b : Byte, elemEncode (.srq v) = .ok [b] ∧
    bits b 0 7 = v.code ∧ b.getLsbD 7 = v.notReady) ∧
  (∀ v : SRQ, 128 ≤ v.code → elemEncode (.srq v) = .error (rangeErr .srq .code)) ∧
  (∀ S : Span, S.length ≠ 1 → elemDecode .srq S = .error (spanErr .srq S)) ∧
  (∀ b : Byte, elemDecode .scq [b] = .ok (.scq
    { code := bits b 0 4, err := bits b 4 4 })) ∧
  (∀ v : SCQ, v.code < 16 → v.err < 16 → ∃ b : Byte, elemEncode (.scq v) = .ok [b] ∧
    bits b 0 4 = v.code ∧ bits b 4 4 = v.err) ∧
  (∀ v : SCQ, 16 ≤ v.code ∨ 16 ≤ v.err → ∃ f : SubField,
    (f = .code ∧ 16 ≤ v.code ∨ f = .err ∧ 16 ≤ v.err) ∧ elemEncode (.scq v) = .error (rangeErr .scq f)) ∧
  (∀ S : Span, S.length ≠ 1 → elemDecode .scq S = .error (spanErr .scq S)) ∧
  (∀ b : Byte, elemDecode .afq [b] = .ok (.afq
    { code := bits b 0 4, err := bits b 4 4 })) ∧
  (∀ v : AFQ, v.code < 16 → v.err < 16 → ∃ b : Byte, elemEncode (.afq v) = .ok [b] ∧
    bits b 0 4 = v.code ∧ bits b 4 4 = v.err) ∧
  (∀ v : AFQ, 16 ≤ v.code ∨ 16 ≤ v.err → ∃ f : SubField,
    (f = .code ∧ 16 ≤ v.code ∨ f = .err ∧ 16 ≤ v.err) ∧ elemEncode (.afq v) = .error (rangeErr .afq f)) ∧
  (∀ S : Span, S.length ≠ 1 → elemDecode .afq S = .error (spanErr .afq S)) ∧
  (∀ b : Byte, elemDecode .sof [b] = .ok (.sof
    { status := bits b 0 5, lfd := b.getLsbD 5, forDir := b.getLsbD 6, fa := b.getLsbD 7 })) ∧
  (∀ v : SOF, v.status < 32 → ∃ b : Byte, elemEncode (.sof v) = .ok [b] ∧
    bits b 0 5 = v.status ∧ b.getLsbD 5 = v.lfd ∧ b.getLsbD 6 = v.forDir ∧ b.getLsbD 7 = v.fa) ∧
  (∀ v : SOF, 32 ≤ v.status → elemEncode (.sof v) = .error (rangeErr .sof .status)) ∧
  (∀ S : Span, S.length ≠ 1 → elemDecode .sof S = .error (spanErr .sof S))

/-- R180, R182, R184: CP16Time2a, CP24Time2a and CP56Time2a, with no range or calendar check on decode. That the X1 of
CP56Time2a names the element CP56 also for ms and min, which R184 encodes by ENC_CP24, is the model's choice (log
entry 9). -/
def Obligations.TimeTagsCodec : Prop :=
  (∀ b0 b1 : Byte, elemDecode .cp16 [b0, b1] = .ok (.cp16 { ms := (b1 ++ b0).toNat })) ∧
  (∀ v : CP16, v.ms < 2 ^ 16 → ∃ b0 b1 : Byte, elemEncode (.cp16 v) = .ok [b0, b1] ∧ (b1 ++ b0).toNat = v.ms) ∧
  (∀ v : CP16, 2 ^ 16 ≤ v.ms → elemEncode (.cp16 v) = .error (rangeErr .cp16 .ms)) ∧
  (∀ S : Span, S.length ≠ 2 → elemDecode .cp16 S = .error (spanErr .cp16 S)) ∧
  (∀ b0 b1 b : Byte, elemDecode .cp24 [b0, b1, b] =
    .ok (.cp24 { ms := (b1 ++ b0).toNat, min := bits b 0 6, iv := b.getLsbD 7 })) ∧
  (∀ v : CP24, v.ms < 2 ^ 16 → v.min < 64 → ∃ b0 b1 b : Byte, elemEncode (.cp24 v) = .ok [b0, b1, b] ∧
    (b1 ++ b0).toNat = v.ms ∧ bits b 0 6 = v.min ∧ b.getLsbD 7 = v.iv ∧ b.getLsbD 6 = false) ∧
  (∀ v : CP24, 2 ^ 16 ≤ v.ms ∨ 64 ≤ v.min → ∃ f : SubField,
    (f = .ms ∧ 2 ^ 16 ≤ v.ms ∨ f = .min ∧ 64 ≤ v.min) ∧ elemEncode (.cp24 v) = .error (rangeErr .cp24 f)) ∧
  (∀ S : Span, S.length ≠ 3 → elemDecode .cp24 S = .error (spanErr .cp24 S)) ∧
  (∀ b0 b1 b h d mo y : Byte, elemDecode .cp56 [b0, b1, b, h, d, mo, y] = .ok (.cp56
    { ms := (b1 ++ b0).toNat, min := bits b 0 6, iv := b.getLsbD 7, hour := bits h 0 5, su := h.getLsbD 7,
      day := bits d 0 5, dow := bits d 5 3, month := bits mo 0 4, year := bits y 0 7 })) ∧
  (∀ v : CP56, v.ms < 2 ^ 16 → v.min < 64 → v.hour < 32 → v.day < 32 → v.dow < 8 → v.month < 16 → v.year < 128 →
    ∃ b0 b1 b h d mo y : Byte, elemEncode (.cp56 v) = .ok [b0, b1, b, h, d, mo, y] ∧
      (b1 ++ b0).toNat = v.ms ∧ bits b 0 6 = v.min ∧ b.getLsbD 6 = false ∧ b.getLsbD 7 = v.iv ∧
      bits h 0 5 = v.hour ∧ bits h 5 2 = 0 ∧ h.getLsbD 7 = v.su ∧ bits d 0 5 = v.day ∧ bits d 5 3 = v.dow ∧
      bits mo 0 4 = v.month ∧ bits mo 4 4 = 0 ∧ bits y 0 7 = v.year ∧ y.getLsbD 7 = false) ∧
  (∀ v : CP56, (2 ^ 16 ≤ v.ms ∨ 64 ≤ v.min ∨ 32 ≤ v.hour ∨ 32 ≤ v.day ∨ 8 ≤ v.dow ∨ 16 ≤ v.month ∨ 128 ≤ v.year) →
    ∃ f : SubField, (f = .ms ∧ 2 ^ 16 ≤ v.ms ∨ f = .min ∧ 64 ≤ v.min ∨ f = .hour ∧ 32 ≤ v.hour ∨ f = .day ∧ 32 ≤ v.day ∨
      f = .dow ∧ 8 ≤ v.dow ∨ f = .month ∧ 16 ≤ v.month ∨ f = .year ∧ 128 ≤ v.year) ∧
      elemEncode (.cp56 v) = .error (rangeErr .cp56 f)) ∧
  (∀ S : Span, S.length ≠ 7 → elemDecode .cp56 S = .error (spanErr .cp56 S))

/-- R102: a decoder raises M11 on a span of another length and is total on spans of its own; an encoder gives a span of
the element's width or X1 of a field of that element; and decoding undoes encoding. That every X1 names the element asked
to encode, also where that is a CP56 whose ms or min ENC_CP24 encodes, is the model's choice (log entry 9). -/
def Obligations.ElementCodecContract : Prop :=
  (∀ (e : Elem) (S : Span), S.length ≠ elemWidth e → elemDecode e S = .error (spanErr e S)) ∧
  (∀ (e : Elem) (S : Span), S.length = elemWidth e → ∃ v, elemDecode e S = .ok v ∧ v.elem = e) ∧
  (∀ v : ElemV, (∃ S, elemEncode v = .ok S) ∨ ∃ f, elemEncode v = .error (rangeErr v.elem f)) ∧
  (∀ (v : ElemV) (S : Span), elemEncode v = .ok S → S.length = elemWidth v.elem ∧ ReservedZero v.elem S ∧
    elemDecode v.elem S = .ok v) ∧
  (∀ (e : Elem) (S T : Span), S.length = elemWidth e → T.length = elemWidth e →
    (∀ i, at' S i &&& ~~~at' (reserved e) i = at' T i &&& ~~~at' (reserved e) i) → elemDecode e S = elemDecode e T)

/-- R87: decoders ignore reserved bits, encoders write them 0; so encoding undoes decoding exactly on spans whose
reserved bits are 0, and decoding undoes encoding always. -/
def Obligations.ReservedElementBits : Prop :=
  (∀ (e : Elem) (S T : Span), S.length = elemWidth e → T.length = elemWidth e →
    (∀ i, at' S i &&& ~~~at' (reserved e) i = at' T i &&& ~~~at' (reserved e) i) → elemDecode e S = elemDecode e T) ∧
  (∀ (v : ElemV) (S : Span), elemEncode v = .ok S → ReservedZero v.elem S) ∧
  (∀ (e : Elem) (S : Span) (v : ElemV), elemDecode e S = .ok v → (elemEncode v = .ok S ↔ ReservedZero e S)) ∧
  (∀ (v : ElemV) (S : Span), elemEncode v = .ok S → elemDecode v.elem S = .ok v)

/-- R138, R187: the number a decoded NVA denotes is exactly raw / 2^15, in [-1, 1 - 2^-15], and -1 for `80 00` only; the
seconds of a decoded CP16 are exactly ms / 1000. No operation computes either. -/
def Obligations.ExactInterpretations : Prop :=
  (∀ (S : Span) (raw : Int), elemDecode .nva S = .ok (.nva raw) →
    nvaValue raw * 2 ^ 15 = raw ∧ -1 ≤ nvaValue raw ∧ nvaValue raw ≤ 1 - 1 / 2 ^ 15 ∧
      (nvaValue raw = -1 ↔ S = [0x80, 0x00])) ∧
  ∀ (S : Span) (v : CP16), elemDecode .cp16 S = .ok (.cp16 v) →
    secondsOf v.ms * 1000 = v.ms ∧ 0 ≤ secondsOf v.ms ∧ secondsOf v.ms ≤ 65535 / 1000

/-! ### Element-type dispatch -/

/-- R194 to R204: ELEM_DEC and ELEM_ENC of monitor types 1 to 11 and their rules. What M11 records is the
model's choice (log entry 10). -/
def Obligations.MonitorTypesDispatch : Prop := ∀ r ∈ monitorRows, RowHolds r

/-- R205 to R214: ELEM_DEC and ELEM_ENC of monitor types 12 to 21. What M11 records is the
model's choice (log entry 10). -/
def Obligations.FurtherMonitorTypesDispatch : Prop := ∀ r ∈ monitorMoreRows, RowHolds r

/-- R215 to R225: ELEM_DEC and ELEM_ENC of monitor types with a CP56Time2a tag. What M11 records is the
model's choice (log entry 10). -/
def Obligations.TimeTaggedMonitorTypesDispatch : Prop := ∀ r ∈ monitorTimeRows, RowHolds r

/-- R226 to R232: ELEM_DEC and ELEM_ENC of process commands. What M11 records is the
model's choice (log entry 10). -/
def Obligations.CommandTypesDispatch : Prop := ∀ r ∈ commandRows, RowHolds r

/-- R233 to R239: ELEM_DEC and ELEM_ENC of process commands with a time tag. What M11 records is the
model's choice (log entry 10). -/
def Obligations.TimeTaggedCommandTypesDispatch : Prop := ∀ r ∈ commandTimeRows, RowHolds r

/-- R240 to R248: ELEM_DEC and ELEM_ENC of system types. What M11 records is the
model's choice (log entry 10). -/
def Obligations.SystemTypesDispatch : Prop := ∀ r ∈ systemRows, RowHolds r

/-- R249 to R259: ELEM_DEC and ELEM_ENC of parameter and file types. What M11 records is the
model's choice (log entry 10). -/
def Obligations.ParameterAndFileTypesDispatch : Prop := ∀ r ∈ parameterFileRows, RowHolds r

/-- R260 and R193: exactly the 66 type identifiers of R84 have a row; for every other value both dispatch operations
raise U1 whatever the span or the record, before any length check, and no ASDU of that type decodes or encodes. -/
def Obligations.UnsupportedTypesRefused : Prop :=
  (∀ t : Byte, t ∈ supported ↔ (typeRow t).isSome) ∧
  ∀ t : Byte, t ∉ supported → layoutOf t = none ∧ ∀ s : State,
    (∀ S, gives (runRequest (.elemDec t S) s) s (.err (.unsupportedType (.u1 t)))) ∧
    (∀ v, gives (runRequest (.elemEnc t v) s) s (.err (.unsupportedType (.u1 t)))) ∧
    (∀ rest, ∃ e, gives (runRequest (.asduDec (t :: rest)) s) s (.err e)) ∧
    ∀ a : Asdu, a.ti = t → gives (runRequest (.asduEnc a) s) s (.err (.unsupportedType (.u1 t)))

/-- R191: `ELEM_DEC(t, ELEM_ENC(t, v)) = v` for every type and every record of that type that encodes. -/
def Obligations.ElementValueRoundTrip : Prop :=
  ∀ (t : Byte) (mk : TypeOp → Instr) (lay : Layout) (v : Record) (out : Span) (s : State),
    typeRow t = some mk → layoutOf t = some lay → typedRecord lay v = true →
    gives (exec (mk (.elemEnc v)) s) s (.bytes out) →
    out.length = layoutWidth lay ∧ gives (exec (mk (.elemDec out)) s) s (.elem v)

/-! ### The ASDU codec -/

/-- R270, R272, R277, R278: the checks of ASDU_DEC in their order M7, M8, M9, U1, M10, each with the span it is raised
on, for every type identifier. -/
def Obligations.AsduDecodeErrorOrder : Prop :=
  ∀ (s : State) (A : Span),
    let n := bits (at' A 1) 0 7
    let sq := (at' A 1).getLsbD 7
    let m := A.length - hdr s.cfg
    let k := s.cfg.ioaW
    (A.length < hdr s.cfg → gives (runRequest (.asduDec A) s) s (mfErr .m7)) ∧
    (hdr s.cfg ≤ A.length → n = 0 → gives (runRequest (.asduDec A) s) s (mfErr .m8)) ∧
    (hdr s.cfg ≤ A.length → 1 ≤ n → ¬ divides sq m n k → gives (runRequest (.asduDec A) s) s (mfErr .m9)) ∧
    (hdr s.cfg ≤ A.length → 1 ≤ n → divides sq m n k → at' A 0 ∉ supported →
      gives (runRequest (.asduDec A) s) s (.err (.unsupportedType (.u1 (at' A 0))))) ∧
    ∀ lay, layoutOf (at' A 0) = some lay → hdr s.cfg ≤ A.length → 1 ≤ n → divides sq m n k →
      derivedWidth sq m n k ≠ layoutWidth lay →
      gives (runRequest (.asduDec A) s) s (mfErr (.m10 (at' A 0) (derivedWidth sq m n k)))

/-- R273, R274, R279 with R78 to R83: an ASDU span of a supported type, with n at least 1 and the length its layout and
type ask for, decodes on its row; the header fields are the bits the rules name, and object i has the address its layout
gives it and the element value that ELEM_DEC gives its bytes. -/
def Obligations.AsduDecodeResult : Prop :=
  ∀ (t : Byte) (mk : TypeOp → Instr) (lay : Layout) (s : State) (rest : Span),
    typeRow t = some mk → layoutOf t = some lay →
    let A := t :: rest
    let n := bits (at' A 1) 0 7
    let sq := (at' A 1).getLsbD 7
    1 ≤ n → A.length = asduLength s.cfg sq n (layoutWidth lay) → s.cfg.Ok →
    ∃ a : Asdu, gives (exec (mk (.asduDec rest)) s) s (.asdu a) ∧
      a.ti = t ∧ a.sq = sq ∧ a.n = n ∧ n ≤ 127 ∧ a.cot.cause = bits (at' A 2) 0 6 ∧ a.cot.pn = (at' A 2).getLsbD 6 ∧
      a.cot.test = (at' A 2).getLsbD 7 ∧
      a.cot.oa = (if s.cfg.cotW = 2 then some (at' A 3).toNat else none) ∧
      a.ca = littleEndian (slice A (2 + s.cfg.cotW) (hdr s.cfg)) ∧ a.objs.length = n ∧
      ∀ i < n, ∃ o, a.objs[i]? = some o ∧ o.ioa = addressOf s.cfg sq (layoutWidth lay) A i ∧
        gives (exec (mk (.elemDec (valueSpan s.cfg sq (layoutWidth lay) A i))) s) s (.elem o.val)

/-- The order of the ASDU_ENC checks (46_asdu R280 to R284, 60_exceptions R349): U1, X2, X1 of cause, originator
address and common address; then in set layout the first object whose address or element does not fit, in sequence layout
X1 of the base address, X3 at the lowest wrong index, then the first element that does not fit. That the cause is checked
before the originator address is R349's order. -/
def Obligations.AsduEncodeErrorOrder : Prop :=
  (∀ (a : Asdu) (s : State), a.ti ∉ supported →
    gives (runRequest (.asduEnc a) s) s (.err (.unsupportedType (.u1 a.ti)))) ∧
  ∀ (t : Byte) (mk : TypeOp → Instr), typeRow t = some mk → ∀ (a : AsduBody) (s : State),
    (¬ CountOk a → gives (exec (mk (.asduEnc a)) s) s (.err (.encodeError (.x2 a.n a.objs.length)))) ∧
    (CountOk a → 64 ≤ a.cot.cause → gives (exec (mk (.asduEnc a)) s) s (headErr .cause)) ∧
    (CountOk a → a.cot.cause < 64 → ¬ OaOk s.cfg a.cot → gives (exec (mk (.asduEnc a)) s) s (headErr .oa)) ∧
    (CountOk a → a.cot.cause < 64 → OaOk s.cfg a.cot → 2 ^ (8 * s.cfg.caW) ≤ a.ca →
      gives (exec (mk (.asduEnc a)) s) s (headErr .ca)) ∧
    (HeaderOk s.cfg a → a.sq = false → ∀ (i : Nat) (o : InfoObject), a.objs[i]? = some o → ValuesEncodeBelow a i →
      (∀ j < i, ∀ p : InfoObject, a.objs[j]? = some p → p.ioa < 2 ^ (8 * s.cfg.ioaW)) →
      (2 ^ (8 * s.cfg.ioaW) ≤ o.ioa → gives (exec (mk (.asduEnc a)) s) s (headErr .ioa)) ∧
      ∀ e : Err, o.ioa < 2 ^ (8 * s.cfg.ioaW) → FirstFails o.val e → gives (exec (mk (.asduEnc a)) s) s (.err e)) ∧
    (HeaderOk s.cfg a → a.sq = true → ∀ b : InfoObject, a.objs[0]? = some b →
      (2 ^ (8 * s.cfg.ioaW) ≤ b.ioa → gives (exec (mk (.asduEnc a)) s) s (headErr .ioa)) ∧
      (b.ioa < 2 ^ (8 * s.cfg.ioaW) → ∀ (j : Nat) (p : InfoObject), a.objs[j]? = some p → p.ioa ≠ b.ioa + j →
        (∀ i < j, ∀ q : InfoObject, a.objs[i]? = some q → q.ioa = b.ioa + i) →
        gives (exec (mk (.asduEnc a)) s) s (.err (.encodeError (.x3 j)))) ∧
      (b.ioa < 2 ^ (8 * s.cfg.ioaW) → (∀ (i : Nat) (q : InfoObject), a.objs[i]? = some q → q.ioa = b.ioa + i) →
        ∀ (j : Nat) (p : InfoObject) (e : Err), a.objs[j]? = some p → ValuesEncodeBelow a j → FirstFails p.val e →
        gives (exec (mk (.asduEnc a)) s) s (.err e)))

/-- R283, R285: a record whose header fits, whose objects carry encodable values of the type and whose addresses fit
(in sequence layout: the base fits and the rest follow it) encodes on its row; the result has the length of R285, the
header bytes carry the header fields, and each object contributes its address (in sequence layout the base alone) and
its element value, in record order. -/
def Obligations.AsduEncodeResult : Prop :=
  ∀ (t : Byte) (mk : TypeOp → Instr) (lay : Layout) (a : AsduBody) (s : State),
    typeRow t = some mk → layoutOf t = some lay → s.cfg.Ok → HeaderOk s.cfg a → typedObjs lay a.objs = true →
    ValuesEncodeBelow a a.n →
    (if a.sq then ∃ b, b < 2 ^ (8 * s.cfg.ioaW) ∧ ∀ i p, a.objs[i]? = some p → p.ioa = b + i
      else ∀ p ∈ a.objs, p.ioa < 2 ^ (8 * s.cfg.ioaW)) →
    ∃ out : Span, gives (exec (mk (.asduEnc a)) s) s (.bytes out) ∧
      out.length = asduLength s.cfg a.sq a.n (layoutWidth lay) ∧
      at' out 0 = t ∧ bits (at' out 1) 0 7 = a.n ∧ (at' out 1).getLsbD 7 = a.sq ∧
      bits (at' out 2) 0 6 = a.cot.cause ∧ (at' out 2).getLsbD 6 = a.cot.pn ∧ (at' out 2).getLsbD 7 = a.cot.test ∧
      (∀ x, a.cot.oa = some x → (at' out 3).toNat = x) ∧
      littleEndian (slice out (2 + s.cfg.cotW) (hdr s.cfg)) = a.ca ∧
      ∀ i o, a.objs[i]? = some o → addressOf s.cfg a.sq (layoutWidth lay) out i = o.ioa ∧
        EncodesTo o.val (valueSpan s.cfg a.sq (layoutWidth lay) out i)

/-- R286: for every ASDU record that encodes, decoding the result gives the record; and for every span that decodes and
whose reserved element bits are 0, encoding the record gives the span. For all 66 types, both layouts and every
configuration. -/
def Obligations.AsduRoundTrip : Prop :=
  ∀ (t : Byte) (mk : TypeOp → Instr) (lay : Layout) (s : State),
    typeRow t = some mk → layoutOf t = some lay → s.cfg.Ok →
    (∀ (a : AsduBody) (out : Span), typedObjs lay a.objs = true → gives (exec (mk (.asduEnc a)) s) s (.bytes out) →
      ∃ rest, out = t :: rest ∧ gives (exec (mk (.asduDec rest)) s) s (.asdu { a with ti := t })) ∧
    ∀ (rest : Span) (a : Asdu), gives (exec (mk (.asduDec rest)) s) s (.asdu a) → AsduReservedZero s.cfg (t :: rest) →
      gives (exec (mk (.asduEnc a.toAsduBody)) s) s (.bytes (t :: rest))

/-! ### The APCI codec -/

/-- R290 to R293: control byte 0 alone selects the arm; I and S numbers are the upper 15 bits of their little-endian
pairs; a U code gives its action whatever c1 to c3 are; any other c0 with format bits 11 raises U2; a span that is not
four bytes raises M5. -/
def Obligations.ApciDecode : Prop :=
  ∀ s : State,
    (∀ c0 c1 c2 c3 : Byte, c0.getLsbD 0 = false →
      decode (.apciDec [c0, c1, c2, c3]) = .ok (.iFormat (.apciDec c0 c1 c2 c3)) ∧
      gives (exec (.iFormat (.apciDec c0 c1 c2 c3)) s) s
        (.apci (.i ((c1 ++ c0).toNat / 2) ((c3 ++ c2).toNat / 2)))) ∧
    (∀ c0 c1 c2 c3 : Byte, c0.getLsbD 0 = true → c0.getLsbD 1 = false →
      decode (.apciDec [c0, c1, c2, c3]) = .ok (.sFormat (.apciDec c0 c1 c2 c3)) ∧
      gives (exec (.sFormat (.apciDec c0 c1 c2 c3)) s) s (.apci (.s ((c3 ++ c2).toNat / 2)))) ∧
    (∀ u ∈ uRows, ∀ c1 c2 c3 : Byte, decode (.apciDec [u.2.2, c1, c2, c3]) = .ok (u.2.1 (.apciDec c1 c2 c3)) ∧
      gives (exec (u.2.1 (.apciDec c1 c2 c3)) s) s (.apci (.u u.1))) ∧
    (∀ c0 c1 c2 c3 : Byte, c0.getLsbD 0 = true → c0.getLsbD 1 = true → c0 ∉ uRows.map (·.2.2) →
      gives (runRequest (.apciDec [c0, c1, c2, c3]) s) s (.err (.unsupportedType (.u2 c0)))) ∧
    ∀ c : Span, c.length ≠ 4 → gives (runRequest (.apciDec c) s) s (mfErr .m5)

/-- R294: of the 256 values of c0, 128 select I, 64 select S, 6 a U action, and the remaining 58, all with format bits
11, raise U2. -/
def Obligations.ControlByteCounts : Prop :=
  let all : List Byte := (List.range 256).map (BitVec.ofNat 8 ·)
  let result := fun c : Byte => (apciDec [c, 0, 0, 0])
  (all.countP fun c => result c matches .ok (.i _ _)) = 128 ∧ (all.countP fun c => result c matches .ok (.s _)) = 64 ∧
  (all.countP fun c => result c matches .ok (.u _)) = 6 ∧
  (all.countP fun c => result c == .error (.unsupportedType (.u2 c)) && c.getLsbD 0 && c.getLsbD 1) = 58

/-- R295 to R298: I and S records encode to their little-endian pairs shifted left by one, U records to their code and
three zero bytes; a number of 2^15 or more raises X1. -/
def Obligations.ApciEncode : Prop :=
  ∀ s : State,
    (∀ ns nr : Nat, ns < 2 ^ 15 → nr < 2 ^ 15 → ∃ c0 c1 c2 c3 : Byte,
      (c1 ++ c0).toNat = 2 * ns ∧ (c3 ++ c2).toNat = 2 * nr ∧
      gives (exec (.iFormat (.apciEnc ns nr)) s) s (.bytes [c0, c1, c2, c3])) ∧
    (∀ ns nr : Nat, 2 ^ 15 ≤ ns ∨ 2 ^ 15 ≤ nr → ∃ f : RangeField,
      (f = .ns ∧ 2 ^ 15 ≤ ns ∨ f = .nr ∧ 2 ^ 15 ≤ nr) ∧ gives (exec (.iFormat (.apciEnc ns nr)) s) s (headErr f)) ∧
    (∀ nr : Nat, nr < 2 ^ 15 → ∃ c2 c3 : Byte, (c3 ++ c2).toNat = 2 * nr ∧
      gives (exec (.sFormat (.apciEnc nr)) s) s (.bytes [0x01, 0x00, c2, c3])) ∧
    (∀ nr : Nat, 2 ^ 15 ≤ nr → gives (exec (.sFormat (.apciEnc nr)) s) s (headErr .nr)) ∧
    ∀ u ∈ uRows, gives (exec (u.2.1 .apciEnc) s) s (.bytes [u.2.2, 0x00, 0x00, 0x00])

/-- R299: the two APCI round trips. -/
def Obligations.ApciRoundTrip : Prop :=
  ∀ s : State,
    (∀ (a : Apci) (c : Span), gives (runRequest (.apciEnc a) s) s (.bytes c) →
      gives (runRequest (.apciDec c) s) s (.apci a)) ∧
    ∀ (c : Span) (a : Apci), gives (runRequest (.apciDec c) s) s (.apci a) → ApciIgnoredZero c →
      gives (runRequest (.apciEnc a) s) s (.bytes c)

/-! ### The framer -/

/-- R300, R302: SPLIT returns frame slices and an end status that account for the whole buffer: the slices stand one
after another from its first byte, and what follows the last is empty (OK), begins with another byte than 0x68 (M1 at its
offset), or begins with 0x68 and is shorter than the frame it declares (M2 at its offset). -/
def Obligations.SplitAccountsForBuffer : Prop :=
  ∀ (s : State) (buf : Span), ∃ (fs : List Span) (rest : Span) (st : Status),
    buf = fs.flatten ++ rest ∧ (∀ f ∈ fs, IsSlice f) ∧ gives (runRequest (.split buf) s) s (.frames fs st) ∧
    ((rest = [] ∧ st = .ok) ∨
      (∃ b tl, rest = b :: tl ∧ b ≠ 0x68 ∧ st = .error (.m1 fs.flatten.length)) ∨
      (rest = [0x68] ∧ st = .error (.m2 fs.flatten.length)) ∨
      ∃ (L : Byte) (tl : Span), rest = 0x68 :: L :: tl ∧ tl.length < L.toNat ∧ st = .error (.m2 fs.flatten.length))

/-- R303: splitting the concatenation of frames gives the frames back. -/
def Obligations.SplitLaw : Prop :=
  ∀ (s : State) (fs : List Span), (∀ f ∈ fs, IsSlice f) →
    gives (runRequest (.split fs.flatten) s) s (.frames fs .ok)

/-- R304, R347: FEED splits the tail with the new bytes; OK empties the tail, M2 keeps the truncated bytes as the new
tail and reports how many, M1 drops the tail and stops the framer; a stopped framer raises FramerStopped and changes
nothing. -/
def Obligations.FeedCases : Prop :=
  ∀ (s : State) (bytes : Span),
    (s.framer = .stopped → gives (runRequest (.feed bytes) s) s (.err (.framerStopped s.ferr))) ∧
    ∀ fs st, s.framer = .run → gives (runRequest (.split (s.rxbuf ++ bytes)) s) s (.frames fs st) →
      (st = .ok → runRequest (.feed bytes) s = .next { s with rxbuf := [], resps := s.resps ++ [.frames fs .ok] }) ∧
      (∀ p, st = .error (.m2 p) → runRequest (.feed bytes) s =
        .next { s with
          rxbuf := (s.rxbuf ++ bytes).drop p
          resps := s.resps ++ [.frames fs (.incomplete ((s.rxbuf ++ bytes).length - p))] }) ∧
      ∀ p, st = .error (.m1 p) → runRequest (.feed bytes) s =
        .next { s with
          rxbuf := [], framer := .stopped, ferr := some (.m1 p)
          resps := s.resps ++ [.frames fs (.error (.m1 p))] }

/-- R306: after any FEED the tail is at most 256 bytes: empty, the lone delimiter, or a frame prefix shorter than its
declared size. In states a run reaches (State.Inv): a FEED of a stopped framer leaves the tail as it was. -/
def Obligations.TailBound : Prop :=
  ∀ (s t : State) (bytes : Span), s.Inv → runRequest (.feed bytes) s = .next t →
    t.rxbuf.length ≤ 256 ∧
    (t.rxbuf = [] ∨ t.rxbuf = [0x68] ∨ ∃ (L : Byte) (tl : Span), t.rxbuf = 0x68 :: L :: tl ∧ tl.length < L.toNat)

/-- R307: a stream with no M1 failure, fed from a reset framer in any pieces, gives the frames of SPLIT of the whole
stream, and leaves its truncated tail. A run over any list of pieces, by induction on the pieces. -/
def Obligations.ChunkingInvariance : Prop :=
  ∀ (s : State) (xs : List Span) (fs : List Span) (st : Status),
    s.framer = .run → s.rxbuf = [] → s.reqs = xs.map .feed →
    gives (runRequest (.split xs.flatten) s) s (.frames fs st) → (∀ p, st ≠ .error (.m1 p)) →
    ∃ (t : State) (rs : List Response), Host.Core.run Sys2Proof.core xs.length s = .next t ∧
      t = { s with reqs := [], rxbuf := tailOf xs.flatten st, resps := s.resps ++ rs } ∧
      rs.length = xs.length ∧ (∀ r ∈ rs, ∃ gs gst, r = .frames gs gst) ∧ rs.flatMap framesOf = fs

/-- R308, R309, R311: FRAME_DEC checks the delimiter (M1), the slice length (M5), the length range (M3, M4) and the U
pattern (U2) in this order; then an I frame carries exactly what ASDU_DEC makes of bytes 6 to L+1, and an S or U frame is
its APCI alone if L = 4 and M6 if not. -/
def Obligations.FrameDecode : Prop :=
  ∀ (s : State) (f : Span),
    let L := (at' f 1).toNat
    let c0 := at' f 2
    (f = [] ∨ at' f 0 ≠ 0x68 → gives (runRequest (.frameDec f) s) s (mfErr (.m1 0))) ∧
    (f ≠ [] → at' f 0 = 0x68 → f.length < 2 ∨ f.length ≠ L + 2 → gives (runRequest (.frameDec f) s) s (mfErr .m5)) ∧
    (2 ≤ f.length → at' f 0 = 0x68 → f.length = L + 2 →
      (L < 4 → gives (runRequest (.frameDec f) s) s (mfErr (.m3 L))) ∧
      (4 ≤ L → s.cfg.maxLen < L → gives (runRequest (.frameDec f) s) s (mfErr (.m4 L))) ∧
      (4 ≤ L → L ≤ s.cfg.maxLen →
        (c0.getLsbD 0 = true → c0.getLsbD 1 = true → c0 ∉ uRows.map (·.2.2) →
          gives (runRequest (.frameDec f) s) s (.err (.unsupportedType (.u2 c0)))) ∧
        (c0.getLsbD 0 = false → decode (.frameDec f) = .ok (.iFormat (.frameDec f)) ∧
          (∀ a, gives (runRequest (.asduDec (f.drop 6)) s) s (.asdu a) →
            gives (exec (.iFormat (.frameDec f)) s) s
              (.apdu { apci := .i ((at' f 3 ++ at' f 2).toNat / 2) ((at' f 5 ++ at' f 4).toNat / 2), asdu := some a })) ∧
          ∀ e, gives (runRequest (.asduDec (f.drop 6)) s) s (.err e) →
            gives (exec (.iFormat (.frameDec f)) s) s (.err e)) ∧
        (c0.getLsbD 0 = true → c0.getLsbD 1 = false → decode (.frameDec f) = .ok (.sFormat (.frameDec f)) ∧
          (L = 4 → gives (exec (.sFormat (.frameDec f)) s) s
            (.apdu { apci := .s ((at' f 5 ++ at' f 4).toNat / 2), asdu := none })) ∧
          (L ≠ 4 → gives (exec (.sFormat (.frameDec f)) s) s (mfErr (.m6 L)))) ∧
        ∀ u ∈ uRows, c0 = u.2.2 → decode (.frameDec f) = .ok (u.2.1 (.frameDec f)) ∧
          (L = 4 → gives (exec (u.2.1 (.frameDec f)) s) s (.apdu { apci := .u u.1, asdu := none })) ∧
          (L ≠ 4 → gives (exec (u.2.1 (.frameDec f)) s) s (mfErr (.m6 L)))))

/-- R312: COMPOSE of each format: X1 of the sequence numbers first, then X5 on the wrong ASDU presence, then the error
of ASDU_ENC, then X4 on a frame longer than P_MAX_LEN; otherwise the delimiter, the length, the control bytes and the
ASDU bytes. -/
def Obligations.ComposeFrame : Prop :=
  ∀ s : State, s.cfg.Ok →
    (∀ (ns nr : Nat) (x : Option Asdu), 2 ^ 15 ≤ ns ∨ 2 ^ 15 ≤ nr → ∃ f : RangeField,
      (f = .ns ∧ 2 ^ 15 ≤ ns ∨ f = .nr ∧ 2 ^ 15 ≤ nr) ∧ gives (exec (.iFormat (.compose ns nr x)) s) s (headErr f)) ∧
    (∀ ns nr : Nat, ns < 2 ^ 15 → nr < 2 ^ 15 →
      gives (exec (.iFormat (.compose ns nr none)) s) s (.err (.encodeError .x5)) ∧
      ∀ a : Asdu,
        (∀ e, gives (runRequest (.asduEnc a) s) s (.err e) → gives (exec (.iFormat (.compose ns nr (some a))) s) s (.err e)) ∧
        ∀ A : Span, gives (runRequest (.asduEnc a) s) s (.bytes A) →
          (s.cfg.maxLen < 4 + A.length →
            gives (exec (.iFormat (.compose ns nr (some a))) s) s (.err (.encodeError (.x4 (4 + A.length))))) ∧
          (4 + A.length ≤ s.cfg.maxLen → ∃ L c0 c1 c2 c3 : Byte, L.toNat = 4 + A.length ∧
            (c1 ++ c0).toNat = 2 * ns ∧ (c3 ++ c2).toNat = 2 * nr ∧
            gives (exec (.iFormat (.compose ns nr (some a))) s) s (.bytes (0x68 :: L :: c0 :: c1 :: c2 :: c3 :: A)))) ∧
    (∀ (nr : Nat) (x : Option Asdu), 2 ^ 15 ≤ nr → gives (exec (.sFormat (.compose nr x)) s) s (headErr .nr)) ∧
    (∀ nr : Nat, nr < 2 ^ 15 →
      (∀ a, gives (exec (.sFormat (.compose nr (some a))) s) s (.err (.encodeError .x5))) ∧
      ∃ c2 c3 : Byte, (c3 ++ c2).toNat = 2 * nr ∧
        gives (exec (.sFormat (.compose nr none)) s) s (.bytes [0x68, 4, 0x01, 0x00, c2, c3])) ∧
    ∀ u ∈ uRows, (∀ a, gives (exec (u.2.1 (.compose (some a))) s) s (.err (.encodeError .x5))) ∧
      gives (exec (u.2.1 (.compose none)) s) s (.bytes [0x68, 4, u.2.2, 0x00, 0x00, 0x00])

/-- R314: decoding a composed frame gives the APDU, for every APDU that composes; and composing a decoded APDU gives the
frame, for every frame that decodes and whose ignored and reserved bits are 0. -/
def Obligations.FrameRoundTrip : Prop :=
  ∀ s : State, s.cfg.Ok →
    (∀ (p : Apdu) (f : Span), gives (runRequest (.compose p) s) s (.bytes f) →
      gives (runRequest (.frameDec f) s) s (.apdu p)) ∧
    ∀ (f : Span) (p : Apdu), gives (runRequest (.frameDec f) s) s (.apdu p) → ApciIgnoredZero (slice f 2 6) →
      AsduReservedZero s.cfg (f.drop 6) → gives (runRequest (.compose p) s) s (.bytes f)

/-! ### The link sequence state -/

/-- R322, R330: on a connected link an I APDU with nr = V(S) and ns = V(R) is accepted, sets LAST_ACK and advances V(R)
modulo 2^15; any other closes the link, changes no counter and raises S1 with both pairs. Nothing else changes. For
hand-built records, which FRAME_DEC cannot give, this is the model's reading: a number of 2^15 or more is a violation
(log entry 13), and an ASDU that is no record of R47 is handed over (log entry 15, the model's choice). -/
def Obligations.ReceiveIFrame : Prop :=
  ∀ (s : State) (ns nr : Nat) (a : Asdu), s.link = .connected →
    (nr = s.vs.toNat ∧ ns = s.vr.toNat → ∃ vr : Seq15, vr.toNat = (s.vr.toNat + 1) % 2 ^ 15 ∧
      exec (.iFormat (.linkRx ns nr a)) s =
        .next { s with lastAck := s.vs, vr := vr, resps := s.resps ++ [.verdict (.acceptI a)] }) ∧
    (¬ (nr = s.vs.toNat ∧ ns = s.vr.toNat) → exec (.iFormat (.linkRx ns nr a)) s =
      .next { s with
        link := .closed
        resps := s.resps ++ [.err (.sequenceViolation (.s1 s.vs.toNat s.vr.toNat nr ns))] })

/-- R323: on a connected link an S APDU with nr = V(S) is accepted, sets LAST_ACK and advances V(R); any other closes the
link, changes no counter and raises S2. Nothing else changes. For a number of 2^15 or more, which FRAME_DEC cannot give,
the violation is the model's reading (log entry 13). -/
def Obligations.ReceiveSFrame : Prop :=
  ∀ (s : State) (nr : Nat), s.link = .connected →
    (nr = s.vs.toNat → ∃ vr : Seq15, vr.toNat = (s.vr.toNat + 1) % 2 ^ 15 ∧
      exec (.sFormat (.linkRx nr)) s =
        .next { s with lastAck := s.vs, vr := vr, resps := s.resps ++ [.verdict .acceptS] }) ∧
    (nr ≠ s.vs.toNat → exec (.sFormat (.linkRx nr)) s =
      .next { s with link := .closed, resps := s.resps ++ [.err (.sequenceViolation (.s2 s.vs.toNat nr))] })

/-- R324, R327: on a connected link every received U APDU is handed over and every U action sent is its six-byte frame,
with no state change either way. -/
def Obligations.UFramesTouchNoCounter : Prop :=
  ∀ s : State, s.link = .connected → s.cfg.Ok → ∀ u ∈ uRows,
    gives (exec (u.2.1 .linkRx) s) s (.verdict (.control u.1)) ∧
    gives (exec (u.2.1 .linkTx) s) s (.bytes [0x68, 4, u.2.2, 0x00, 0x00, 0x00])

/-- R325: on a connected link LINK_TX_I gives the frame that COMPOSE makes with ns = V(S) and nr = V(R) and advances V(S)
modulo 2^15; a frame that fails to compose gives its error and increments nothing. Nothing else changes. -/
def Obligations.SendIFrame : Prop :=
  ∀ (s : State) (a : Asdu), s.link = .connected →
    let p : Apdu := { apci := .i s.vs.toNat s.vr.toNat, asdu := some a }
    (∀ f, gives (runRequest (.compose p) s) s (.bytes f) → ∃ vs : Seq15, vs.toNat = (s.vs.toNat + 1) % 2 ^ 15 ∧
      exec (.iFormat (.linkTx a)) s = .next { s with vs := vs, resps := s.resps ++ [.bytes f] }) ∧
    ∀ e, gives (runRequest (.compose p) s) s (.err e) → gives (exec (.iFormat (.linkTx a)) s) s (.err e)

/-- R326: on a connected link LINK_TX_S gives `68 04 01 00` and V(R) shifted left by one, and advances V(S) exactly when
P_S_TX_ADVANCES_VS is true. Nothing else changes. -/
def Obligations.SendSFrame : Prop :=
  ∀ s : State, s.link = .connected → s.cfg.Ok → ∃ (c2 c3 : Byte) (vs : Seq15), (c3 ++ c2).toNat = 2 * s.vr.toNat ∧
    vs.toNat = (if s.cfg.sTxAdvancesVs then (s.vs.toNat + 1) % 2 ^ 15 else s.vs.toNat) ∧
    exec (.sFormat .linkTx) s = .next { s with vs := vs, resps := s.resps ++ [.bytes [0x68, 4, 0x01, 0x00, c2, c3]] }

/-- R345: on a closed link every link operation raises ConnectionClosed, before any other check, and changes nothing. -/
def Obligations.ClosedLinkRefuses : Prop :=
  ∀ s : State, s.link = .closed →
    (∀ ns nr a, gives (exec (.iFormat (.linkRx ns nr a)) s) s (.err .connectionClosed)) ∧
    (∀ nr, gives (exec (.sFormat (.linkRx nr)) s) s (.err .connectionClosed)) ∧
    (∀ a, gives (exec (.iFormat (.linkTx a)) s) s (.err .connectionClosed)) ∧
    gives (exec (.sFormat .linkTx) s) s (.err .connectionClosed) ∧
    ∀ u ∈ uRows, gives (exec (u.2.1 .linkRx) s) s (.err .connectionClosed) ∧
      gives (exec (u.2.1 .linkTx) s) s (.err .connectionClosed)

/-- R328: TRANSPORT_CLOSED closes the link in any state, changes nothing else, and a second one changes nothing more. -/
def Obligations.TransportClosed : Prop :=
  ∀ s : State, runRequest .transportClosed s = .next { s with link := .closed, resps := s.resps ++ [.done] } ∧
    (s.link = .closed → gives (runRequest .transportClosed s) s .done)

/-- R332: over any run without a RESET, the final V(S) is the first plus the number of frames that LINK_TX_I gave, plus
those that LINK_TX_S gave when P_S_TX_ADVANCES_VS is true, modulo 2^15. Received frames never change it. -/
def Obligations.SendCount : Prop :=
  ∀ (n : Nat) (s t : State), (∀ r ∈ s.reqs.take n, isReset r = false) → Host.Core.run Sys2Proof.core n s = .next t →
    ∃ rs : List Response, t.resps = s.resps ++ rs ∧ rs.length = (s.reqs.take n).length ∧
      t.vs.toNat = (s.vs.toNat + ((s.reqs.take n).zip rs).countP sentI +
        if s.cfg.sTxAdvancesVs then ((s.reqs.take n).zip rs).countP sentS else 0) % 2 ^ 15

/-! ### The machine as a whole -/

/-- A step runs the decoded instruction: when the oldest pending operation selects a row and its operands are values of
their types, the step is the meaning of that instruction on the state without that operation; an operation that selects
no row is performed as itself; with no operation pending the state stays as it is (the model's choice, log entry 3). -/
def Obligations.StepRunsDecodedInstruction : Prop :=
  ∀ s : State,
    (∀ r rest i, s.reqs = r :: rest → decode r = .ok i → i.wellFormed = true → step s = exec i { s with reqs := rest }) ∧
    (∀ r rest e, s.reqs = r :: rest → decode r = .error e → step s = runOp r { s with reqs := rest }) ∧
    (s.reqs = [] → step s = .next s)

/-- Words of the opcode table written out from R72, R76 and R84 decode to the instructions they stand for. -/
def Obligations.DecodedWords : Prop :=
  decode (.apciDec [0x02, 0x00, 0x04, 0x00]) = .ok (.iFormat (.apciDec 0x02 0x00 0x04 0x00)) ∧
  decode (.apciDec [0x01, 0x00, 0x0A, 0x00]) = .ok (.sFormat (.apciDec 0x01 0x00 0x0A 0x00)) ∧
  decode (.apciDec [0x0B, 0x00, 0x00, 0x00]) = .ok (.uStartdtCon (.apciDec 0x00 0x00 0x00)) ∧
  decode (.apciDec [0x43, 0x12, 0x34, 0x56]) = .ok (.uTestfrAct (.apciDec 0x12 0x34 0x56)) ∧
  decode (.elemDec 0x1E [0x01]) = .ok (.mSpTb1 (.elemDec [0x01])) ∧
  decode (.asduDec [0x64, 0x01]) = .ok (.cIcNa1 (.asduDec [0x01])) ∧
  decode (.elemDec 0x7D [0x00]) = .error (.unknownTypeId 0x7D)

/-- Decode and encode agree: every well-formed instruction, of every row, with every operand, is what the decoder reads
from its encoding. -/
def Obligations.DecodeOfEncode : Prop :=
  ∀ i : Instr, i.wellFormed = true → decode (encode i) = .ok i

/-- The rows and the operations agree: the meaning of the instruction an operation selects is that operation as a whole,
for every operation and every operand. -/
def Obligations.RowsImplementOperations : Prop :=
  ∀ (r : Request) (i : Instr) (s : State), decode r = .ok i → exec i s = runOp r s

/-- R11: a stateless operation changes no field of the block, gives exactly one result, and gives the same result in
every state with the same configuration. -/
def Obligations.StatelessOperations : Prop :=
  ∀ r : Request, isStateless r = true → wellTyped r = true → ∀ c : Cfg, ∃ x : Response, ∀ s : State, s.cfg = c →
    gives (runRequest r s) s x

/-- R42: which operation writes which field, and, for two states that agree on the fields the operation reads, that it
gives the same result and writes the same values. -/
def Obligations.AccessTable : Prop :=
  (∀ (r : Request) (s t : State), runRequest r s = .next t →
    (t.vs ≠ s.vs → (∃ a, r = .linkTxI a) ∨ (r = .linkTxS ∧ s.cfg.sTxAdvancesVs = true) ∨ isReset r = true) ∧
    (t.vr ≠ s.vr ∨ t.lastAck ≠ s.lastAck →
      (∃ p, r = .linkRx p ∧ ∀ act, p.apci ≠ .u act) ∨ isReset r = true) ∧
    (t.link ≠ s.link → (∃ p, r = .linkRx p ∧ ∀ act, p.apci ≠ .u act) ∨ r = .transportClosed ∨ isReset r = true) ∧
    (t.rxbuf ≠ s.rxbuf ∨ t.framer ≠ s.framer ∨ t.ferr ≠ s.ferr → (∃ b, r = .feed b) ∨ isReset r = true) ∧
    (t.cfg ≠ s.cfg → isReset r = true)) ∧
  (∀ (b : Span) (s s' t t' : State), s.rxbuf = s'.rxbuf → s.framer = s'.framer → s.ferr = s'.ferr → s.cfg = s'.cfg →
    runRequest (.feed b) s = .next t → runRequest (.feed b) s' = .next t' →
    t.rxbuf = t'.rxbuf ∧ t.framer = t'.framer ∧ t.ferr = t'.ferr ∧ t.resps.drop s.resps.length = t'.resps.drop s'.resps.length) ∧
  (∀ (p : Apdu) (s s' t t' : State), s.vs = s'.vs → s.link = s'.link → (∀ ns nr, p.apci = .i ns nr → s.vr = s'.vr) →
    runRequest (.linkRx p) s = .next t → runRequest (.linkRx p) s' = .next t' →
    t.link = t'.link ∧ (s.vr = s'.vr → s.lastAck = s'.lastAck → t.vr = t'.vr ∧ t.lastAck = t'.lastAck) ∧
    t.resps.drop s.resps.length = t'.resps.drop s'.resps.length) ∧
  (∀ (act : UAct) (a : Option Asdu) (s s' t t' : State), s.link = s'.link →
    runRequest (.linkRx { apci := .u act, asdu := a }) s = .next t →
    runRequest (.linkRx { apci := .u act, asdu := a }) s' = .next t' →
    t.resps.drop s.resps.length = t'.resps.drop s'.resps.length) ∧
  (∀ (r : Request) (s s' t t' : State), (∃ a, r = .linkTxI a) ∨ r = .linkTxS → s.vs = s'.vs → s.vr = s'.vr →
    s.link = s'.link → s.cfg = s'.cfg → runRequest r s = .next t → runRequest r s' = .next t' →
    t.vs = t'.vs ∧ t.resps.drop s.resps.length = t'.resps.drop s'.resps.length) ∧
  (∀ (act : UAct) (s s' t t' : State), s.link = s'.link → s.cfg = s'.cfg →
    runRequest (.linkTxU act) s = .next t → runRequest (.linkTxU act) s' = .next t' →
    t.resps.drop s.resps.length = t'.resps.drop s'.resps.length) ∧
  ∀ (r : Request) (s s' t t' : State), isStateless r = true → s.cfg = s'.cfg →
    runRequest r s = .next t → runRequest r s' = .next t' →
    t.resps.drop s.resps.length = t'.resps.drop s'.resps.length

/-- R351: exactly two errors change state. A SequenceViolation closes the link and an M1 status of FEED stops the framer
and drops its tail; every other error, on every operation, leaves all state as it was. -/
def Obligations.ErrorEffects : Prop :=
  ∀ (r : Request) (s t : State), runRequest r s = .next t →
    (∀ v : Violation, t.resps = s.resps ++ [.err (.sequenceViolation v)] →
      t = { s with link := .closed, resps := t.resps }) ∧
    (∀ e : Err, t.resps = s.resps ++ [.err e] → (∀ v, e ≠ .sequenceViolation v) → t = { s with resps := t.resps }) ∧
    ∀ (b : Span) (fs : List Span) (p : Nat), r = .feed b → t.resps = s.resps ++ [.frames fs (.error (.m1 p))] →
      t = { s with framer := .stopped, ferr := some (.m1 p), rxbuf := [], resps := t.resps }

/-- R34, R305, R354: in a run of any length without a RESET, a closed link stays closed, a stopped framer stays stopped
with the error that stopped it, and the configuration stays as it was. -/
def Obligations.StickyUntilReset : Prop :=
  ∀ (n : Nat) (s t : State), (∀ r ∈ s.reqs.take n, isReset r = false) → Host.Core.run Sys2Proof.core n s = .next t →
    (s.link = .closed → t.link = .closed ∧ t.vs = s.vs ∧ t.vr = s.vr ∧ t.lastAck = s.lastAck) ∧
    (s.framer = .stopped → t.framer = .stopped ∧ t.ferr = s.ferr ∧ t.rxbuf = s.rxbuf) ∧ t.cfg = s.cfg

/-- R43, R360: RESET(c) in any state sets every field of the block to its reset value and cfg to c; a record out of the
ranges of R14 to R18 is refused before the operation. -/
def Obligations.ResetSetsEveryField : Prop :=
  ∀ (s : State) (c : Cfg),
    (c.Ok → runRequest (.reset c) s = .next
      { vs := 0, vr := 0, lastAck := 0, link := .connected, rxbuf := [], framer := .run, ferr := none, cfg := c,
        reqs := s.reqs, resps := s.resps ++ [.done] }) ∧
    (¬ c.Ok → runRequest (.reset c) s = .refused .illTypedOperand)

/-- The model's initial state is what RESET leaves in any state, for the configuration it holds; that configuration, the
104 profile of R360's example, is the model's choice (log entry 1), and the owner's lists start empty (log entry 2). -/
def Obligations.InitialStateIsResetState : Prop :=
  State.reset.cfg = { cotW := 2, caW := 2, ioaW := 3, maxLen := 253, sTxAdvancesVs := true } ∧
  State.reset.reqs = [] ∧ State.reset.resps = [] ∧
  ∀ s : State, runRequest (.reset State.reset.cfg) s =
    .next { State.reset with reqs := s.reqs, resps := s.resps ++ [.done] }

/-- Every step keeps the invariant of Safety.lean: the configuration in range, the tail one that FEED keeps, FERR in
agreement with FRAMER, and no tail in a stopped framer; from every state that has it. -/
def Obligations.StepKeepsInvariant : Prop :=
  ∀ s t : State, s.Inv → Sys2Proof.Machine.step s = .next t → t.Inv

/-- The invariant holds at reset. -/
def Obligations.ResetHasInvariant : Prop := State.reset.Inv

/-- Every operation is answered by one result, in the order issued: a step takes the oldest pending operation, appends
one result and touches no other pending operation or earlier result (log entry 2: the lists are the model's). -/
def Obligations.OneResultPerOperation : Prop :=
  ∀ (n : Nat) (s t : State), Host.Core.run Sys2Proof.core n s = .next t →
    t.reqs = s.reqs.drop n ∧ ∃ rs : List Response, t.resps = s.resps ++ rs ∧ rs.length = (s.reqs.take n).length

/-- No operation whose operands are values of their types is left unanswered, in any state: the step gives a next state;
and a step stops exactly on operands that are no values of their types (log entry 7). -/
def Obligations.EveryOperationAnswered : Prop :=
  ∀ (s : State) (r : Request) (rest : List Request), s.reqs = r :: rest →
    (wellTyped r = true → ∃ t, Sys2Proof.Machine.step s = .next t) ∧
    (wellTyped r = false → Sys2Proof.Machine.step s = .refused .illTypedOperand)

/-- The state of the block is the eight fields of R30 alone: for each operation and block there is one answer, a result
with the block after it or a refusal, which every state with that block gives; the owner's two lists, which the model
keeps beside the block (log entry 2), are read by no operation, and of them only the list of results grows, by that one
result. -/
def Obligations.OperationsReadBlockAlone : Prop :=
  ∀ (r : Request) (b : Block),
    (∃ (b' : Block) (x : Response), ∀ s : State, s.toBlock = b →
      runRequest r s = .next { toBlock := b', reqs := s.reqs, resps := s.resps ++ [x] }) ∨
    ∀ s : State, s.toBlock = b → runRequest r s = .refused .illTypedOperand
end

