-- ==== Sys2Proof/Laws/Bits.lean ====
section
/-! SUPPORT. What the bit-field and byte-order primitives do (40_elem_status R100, R101, 00_scope R22, R24). -/
namespace Sys2Proof.Machine

/-- A field is the number's quotient by 2^lo, modulo 2^w. -/
theorem field_eq (v lo w : Nat) : field v lo w = v / 2 ^ lo % 2 ^ w := by
  rw [field, Nat.shiftRight_eq_div_pow, Nat.and_two_pow_sub_one_eq_mod]

/-- A w-bit field is a uw value. -/
theorem field_lt (v lo w : Nat) : field v lo w < 2 ^ w := by
  rw [field_eq]; exact Nat.mod_lt _ (Nat.two_pow_pos w)

/-- A flag is the number's bit. -/
theorem flag_eq (v i : Nat) : flag v i = v.testBit i := by
  rw [flag, field_eq, Nat.testBit_eq_decide_div_mod_eq, Bool.beq_eq_decide_eq, pow_one]

/-- A flag of a byte is the byte's bit. -/
theorem flag_toNat (b : Byte) (i : Nat) : flag b.toNat i = b.getLsbD i := by rw [flag_eq]; rfl

/-- Inserting a field and reading it back. -/
theorem field_put {lo w x : Nat} (h : x < 2 ^ w) : field (put lo w x) lo w = x := by
  rw [field_eq, put, Nat.shiftLeft_eq, Nat.mul_div_cancel _ (Nat.two_pow_pos lo), Nat.mod_eq_of_lt h]

@[simp] theorem toNat_byte (n : Nat) : (byte n).toNat = n % 2 ^ 8 := by simp [byte]

@[simp] theorem byte_toNat (b : Byte) : byte b.toNat = b := by simp [byte]

@[simp] theorem leBytes_length (k v : Nat) : (leBytes k v).length = k := by
  induction k generalizing v with
  | zero => rfl
  | succ k ih => simp [leBytes, ih]

/-- A span of k bytes reads as a number of 8 k bits. -/
theorem leNat_lt (S : Span) : leNat S < 2 ^ (8 * S.length) := by
  induction S with
  | nil => simp [leNat]
  | cons b S ih =>
    have hb := b.isLt
    have he : 2 ^ (8 * (b :: S).length) = 2 ^ 8 * 2 ^ (8 * S.length) := by
      rw [← Nat.pow_add]; congr 1; simp only [List.length_cons]; omega
    rw [he]
    simp only [leNat]
    omega

/-- A number written in k bytes reads back, for a number in range (R24). -/
theorem leNat_leBytes {k v : Nat} (h : v < 2 ^ (8 * k)) : leNat (leBytes k v) = v := by
  induction k generalizing v with
  | zero => simp at h; simp [leBytes, leNat, h]
  | succ k ih =>
    have hk : v / 2 ^ 8 < 2 ^ (8 * k) := by
      apply Nat.div_lt_of_lt_mul
      rw [← Nat.pow_add, show 8 + 8 * k = 8 * (k + 1) by omega]
      exact h
    rw [leBytes, leNat, ih hk, toNat_byte]
    omega

/-- A span written back from its number is the span. -/
theorem leBytes_leNat (S : Span) : leBytes S.length (leNat S) = S := by
  induction S with
  | nil => rfl
  | cons b S ih =>
    have hb := b.isLt
    have h1 : (b.toNat + 2 ^ 8 * leNat S) % 2 ^ 8 = b.toNat := by omega
    have h2 : (b.toNat + 2 ^ 8 * leNat S) / 2 ^ 8 = leNat S := by omega
    simp only [List.length_cons, leBytes, leNat, h1, h2, ih, byte_toNat]

/-- A big-endian pair reads back, for a number in range (R24). -/
theorem be16_be16Bytes {v : Nat} (h : v < 2 ^ 16) :
    ∃ b0 b1, be16Bytes v = [b0, b1] ∧ be16 b0 b1 = v := by
  refine ⟨_, _, rfl, ?_⟩
  simp only [be16, toNat_byte]
  omega

/-- Sign extension undoes the reduction modulo 2^n of a value in range (R22). -/
theorem sext_wrap {n : Nat} {x : Int} (hn : 1 ≤ n) (h : fitsSigned n x = true) : sext n (wrap n x) = x := by
  obtain ⟨m, rfl⟩ : ∃ m, n = m + 1 := ⟨n - 1, by omega⟩
  simp only [fitsSigned, decide_eq_true_eq, Nat.add_sub_cancel] at h
  have hp : (0 : Int) < 2 ^ m := by positivity
  have h2 : (2 : Int) ^ (m + 1) = 2 * 2 ^ m := by ring
  have hN : ∀ y : Nat, y < 2 * 2 ^ m → (flag y m = true ↔ 2 ^ m ≤ y) := by
    intro y hy
    rw [flag_eq, Nat.testBit_eq_decide_div_mod_eq, decide_eq_true_eq]
    rcases Nat.lt_or_ge y (2 ^ m) with hlt | hge
    · rw [Nat.div_eq_of_lt hlt]; omega
    · rw [Nat.div_eq_of_lt_le (k := 1) (by omega) (by omega)]; omega
  have hc : ((2 ^ m : Nat) : Int) = 2 ^ m := by push_cast; rfl
  simp only [sext, wrap, Nat.add_sub_cancel, h2]
  rcases lt_or_ge x 0 with hx | hx
  · have hm : x % (2 * 2 ^ m) = x + 2 * 2 ^ m := by
      rw [← Int.add_emod_right, Int.emod_eq_of_lt (by omega) (by omega)]
    rw [hm]
    have := (hN (x + 2 * 2 ^ m).toNat (by omega)).2 (by omega)
    rw [if_pos this]
    omega
  · have hm : x % (2 * 2 ^ m) = x := Int.emod_eq_of_lt hx (by omega)
    rw [hm]
    have : ¬ flag x.toNat m = true := fun h' => by
      have := (hN x.toNat (by omega)).1 h'
      omega
    rw [if_neg this]
    omega

end Sys2Proof.Machine
end

