-- ==== Sys2Proof/Laws/Framer.lean ====
section
/-! SUPPORT. The split loop, one equation per way it goes on or ends (48_framer R300), with the fuel gone. -/
namespace Sys2Proof.Machine

/-- Fuel beyond the span's length changes nothing. -/
theorem splitLoop_fuel (n p : Nat) (S : Span) (h : S.length ≤ n) : splitLoop n p S = splitLoop S.length p S := by
  induction hk : S.length using Nat.strong_induction_on generalizing n p S with
  | _ k ih =>
    subst hk
    match S, n with
    | [], 0 => rfl
    | [], _ + 1 => rfl
    | _ :: _, 0 => simp at h
    | b :: rest, n + 1 =>
      have hl : (b :: rest).length = rest.length + 1 := rfl
      rw [hl]
      simp only [splitLoop]
      split
      · rfl
      · split
        · rfl
        · rename_i L tl
          split
          · rfl
          · have hd : ((b :: L :: tl).drop (L.toNat + 2)).length ≤ tl.length := by
              simp
            simp only [List.length_cons] at h
            rw [ih _ (by simp only [List.length_cons]; omega) n _ _ (by omega) rfl,
              ih _ (by simp only [List.length_cons]; omega) (L :: tl).length _ _
                (by simp only [List.length_cons]; omega) rfl]

/-- `split` from an offset: the loop of R300 on the rest of the buffer at cursor p. -/
def splitFrom (p : Nat) (S : Span) : List Span × SplitEnd := splitLoop S.length p S

theorem split_eq (S : Span) : split S = splitFrom 0 S := rfl

@[simp] theorem splitFrom_nil (p : Nat) : splitFrom p [] = ([], .ok) := rfl

/-- A byte that is no delimiter ends the loop. -/
theorem splitFrom_badStart (p : Nat) {b : Byte} (S : Span) (h : b ≠ pStart) :
    splitFrom p (b :: S) = ([], .m1 p) := by simp [splitFrom, splitLoop, h]

/-- A lone delimiter ends the loop. -/
@[simp] theorem splitFrom_lone (p : Nat) : splitFrom p [pStart] = ([], .m2 p) := by
  simp [splitFrom, splitLoop]

/-- A frame that runs past the buffer ends the loop. -/
theorem splitFrom_short (p : Nat) (L : Byte) (S : Span) (h : S.length < L.toNat) :
    splitFrom p (pStart :: L :: S) = ([], .m2 p) := by
  have : S.length + 1 + 1 < L.toNat + 2 := by omega
  simp [splitFrom, splitLoop, this]

/-- A frame that fits is split off and the loop goes on after it. -/
theorem splitFrom_frame (p : Nat) (L : Byte) (S : Span) (h : L.toNat ≤ S.length) :
    splitFrom p (pStart :: L :: S) =
      ((pStart :: L :: S.take L.toNat) :: (splitFrom (p + (L.toNat + 2)) (S.drop L.toNat)).1,
        (splitFrom (p + (L.toNat + 2)) (S.drop L.toNat)).2) := by
  have hn : ¬ S.length + 1 + 1 < L.toNat + 2 := by omega
  simp only [splitFrom, List.length_cons, splitLoop, ne_eq, not_true_eq_false, ↓reduceIte, hn,
    List.take_succ_cons, List.drop_succ_cons]
  rw [splitLoop_fuel _ _ _ (by simp; omega)]

end Sys2Proof.Machine
end

