-- ==== Sys2Proof/Laws/State.lean ====
section
/-! SUPPORT. One lemma per field and update of the state, true by rfl. -/
namespace Sys2Proof.Machine

@[simp] theorem State.respond_vs (s : State) (r : Response) : (s.respond r).vs = s.vs := rfl
@[simp] theorem State.respond_vr (s : State) (r : Response) : (s.respond r).vr = s.vr := rfl
@[simp] theorem State.respond_lastAck (s : State) (r : Response) : (s.respond r).lastAck = s.lastAck := rfl
@[simp] theorem State.respond_link (s : State) (r : Response) : (s.respond r).link = s.link := rfl
@[simp] theorem State.respond_rxbuf (s : State) (r : Response) : (s.respond r).rxbuf = s.rxbuf := rfl
@[simp] theorem State.respond_framer (s : State) (r : Response) : (s.respond r).framer = s.framer := rfl
@[simp] theorem State.respond_ferr (s : State) (r : Response) : (s.respond r).ferr = s.ferr := rfl
@[simp] theorem State.respond_cfg (s : State) (r : Response) : (s.respond r).cfg = s.cfg := rfl
@[simp] theorem State.respond_reqs (s : State) (r : Response) : (s.respond r).reqs = s.reqs := rfl
@[simp] theorem State.respond_resps (s : State) (r : Response) : (s.respond r).resps = s.resps ++ [r] := rfl

@[simp] theorem State.advanceVs_vs (s : State) : (s.advanceVs).vs = s.vs + 1 := rfl
@[simp] theorem State.advanceVs_vr (s : State) : (s.advanceVs).vr = s.vr := rfl
@[simp] theorem State.advanceVs_lastAck (s : State) : (s.advanceVs).lastAck = s.lastAck := rfl
@[simp] theorem State.advanceVs_link (s : State) : (s.advanceVs).link = s.link := rfl
@[simp] theorem State.advanceVs_rxbuf (s : State) : (s.advanceVs).rxbuf = s.rxbuf := rfl
@[simp] theorem State.advanceVs_framer (s : State) : (s.advanceVs).framer = s.framer := rfl
@[simp] theorem State.advanceVs_ferr (s : State) : (s.advanceVs).ferr = s.ferr := rfl
@[simp] theorem State.advanceVs_cfg (s : State) : (s.advanceVs).cfg = s.cfg := rfl
@[simp] theorem State.advanceVs_reqs (s : State) : (s.advanceVs).reqs = s.reqs := rfl
@[simp] theorem State.advanceVs_resps (s : State) : (s.advanceVs).resps = s.resps := rfl

@[simp] theorem State.accept_vs (s : State) (nr : Nat) : (s.accept nr).vs = s.vs := rfl
@[simp] theorem State.accept_vr (s : State) (nr : Nat) : (s.accept nr).vr = s.vr + 1 := rfl
@[simp] theorem State.accept_lastAck (s : State) (nr : Nat) : (s.accept nr).lastAck = BitVec.ofNat 15 nr := rfl
@[simp] theorem State.accept_link (s : State) (nr : Nat) : (s.accept nr).link = s.link := rfl
@[simp] theorem State.accept_rxbuf (s : State) (nr : Nat) : (s.accept nr).rxbuf = s.rxbuf := rfl
@[simp] theorem State.accept_framer (s : State) (nr : Nat) : (s.accept nr).framer = s.framer := rfl
@[simp] theorem State.accept_ferr (s : State) (nr : Nat) : (s.accept nr).ferr = s.ferr := rfl
@[simp] theorem State.accept_cfg (s : State) (nr : Nat) : (s.accept nr).cfg = s.cfg := rfl
@[simp] theorem State.accept_reqs (s : State) (nr : Nat) : (s.accept nr).reqs = s.reqs := rfl
@[simp] theorem State.accept_resps (s : State) (nr : Nat) : (s.accept nr).resps = s.resps := rfl

@[simp] theorem State.close_vs (s : State) : (s.close).vs = s.vs := rfl
@[simp] theorem State.close_vr (s : State) : (s.close).vr = s.vr := rfl
@[simp] theorem State.close_lastAck (s : State) : (s.close).lastAck = s.lastAck := rfl
@[simp] theorem State.close_link (s : State) : (s.close).link = .closed := rfl
@[simp] theorem State.close_rxbuf (s : State) : (s.close).rxbuf = s.rxbuf := rfl
@[simp] theorem State.close_framer (s : State) : (s.close).framer = s.framer := rfl
@[simp] theorem State.close_ferr (s : State) : (s.close).ferr = s.ferr := rfl
@[simp] theorem State.close_cfg (s : State) : (s.close).cfg = s.cfg := rfl
@[simp] theorem State.close_reqs (s : State) : (s.close).reqs = s.reqs := rfl
@[simp] theorem State.close_resps (s : State) : (s.close).resps = s.resps := rfl

@[simp] theorem State.setTail_vs (s : State) (S : Span) : (s.setTail S).vs = s.vs := rfl
@[simp] theorem State.setTail_vr (s : State) (S : Span) : (s.setTail S).vr = s.vr := rfl
@[simp] theorem State.setTail_lastAck (s : State) (S : Span) : (s.setTail S).lastAck = s.lastAck := rfl
@[simp] theorem State.setTail_link (s : State) (S : Span) : (s.setTail S).link = s.link := rfl
@[simp] theorem State.setTail_rxbuf (s : State) (S : Span) : (s.setTail S).rxbuf = S := rfl
@[simp] theorem State.setTail_framer (s : State) (S : Span) : (s.setTail S).framer = s.framer := rfl
@[simp] theorem State.setTail_ferr (s : State) (S : Span) : (s.setTail S).ferr = s.ferr := rfl
@[simp] theorem State.setTail_cfg (s : State) (S : Span) : (s.setTail S).cfg = s.cfg := rfl
@[simp] theorem State.setTail_reqs (s : State) (S : Span) : (s.setTail S).reqs = s.reqs := rfl
@[simp] theorem State.setTail_resps (s : State) (S : Span) : (s.setTail S).resps = s.resps := rfl

@[simp] theorem State.stopFramer_vs (s : State) (m : Malformed) : (s.stopFramer m).vs = s.vs := rfl
@[simp] theorem State.stopFramer_vr (s : State) (m : Malformed) : (s.stopFramer m).vr = s.vr := rfl
@[simp] theorem State.stopFramer_lastAck (s : State) (m : Malformed) : (s.stopFramer m).lastAck = s.lastAck := rfl
@[simp] theorem State.stopFramer_link (s : State) (m : Malformed) : (s.stopFramer m).link = s.link := rfl
@[simp] theorem State.stopFramer_rxbuf (s : State) (m : Malformed) : (s.stopFramer m).rxbuf = [] := rfl
@[simp] theorem State.stopFramer_framer (s : State) (m : Malformed) : (s.stopFramer m).framer = .stopped := rfl
@[simp] theorem State.stopFramer_ferr (s : State) (m : Malformed) : (s.stopFramer m).ferr = some m := rfl
@[simp] theorem State.stopFramer_cfg (s : State) (m : Malformed) : (s.stopFramer m).cfg = s.cfg := rfl
@[simp] theorem State.stopFramer_reqs (s : State) (m : Malformed) : (s.stopFramer m).reqs = s.reqs := rfl
@[simp] theorem State.stopFramer_resps (s : State) (m : Malformed) : (s.stopFramer m).resps = s.resps := rfl

@[simp] theorem State.resetTo_vs (s : State) (c : Cfg) : (s.resetTo c).vs = 0 := rfl
@[simp] theorem State.resetTo_vr (s : State) (c : Cfg) : (s.resetTo c).vr = 0 := rfl
@[simp] theorem State.resetTo_lastAck (s : State) (c : Cfg) : (s.resetTo c).lastAck = 0 := rfl
@[simp] theorem State.resetTo_link (s : State) (c : Cfg) : (s.resetTo c).link = .connected := rfl
@[simp] theorem State.resetTo_rxbuf (s : State) (c : Cfg) : (s.resetTo c).rxbuf = [] := rfl
@[simp] theorem State.resetTo_framer (s : State) (c : Cfg) : (s.resetTo c).framer = .run := rfl
@[simp] theorem State.resetTo_ferr (s : State) (c : Cfg) : (s.resetTo c).ferr = none := rfl
@[simp] theorem State.resetTo_cfg (s : State) (c : Cfg) : (s.resetTo c).cfg = c := rfl
@[simp] theorem State.resetTo_reqs (s : State) (c : Cfg) : (s.resetTo c).reqs = s.reqs := rfl
@[simp] theorem State.resetTo_resps (s : State) (c : Cfg) : (s.resetTo c).resps = s.resps := rfl

@[simp] theorem State.setReqs_vs (s : State) (rs : List Request) : (s.setReqs rs).vs = s.vs := rfl
@[simp] theorem State.setReqs_vr (s : State) (rs : List Request) : (s.setReqs rs).vr = s.vr := rfl
@[simp] theorem State.setReqs_lastAck (s : State) (rs : List Request) : (s.setReqs rs).lastAck = s.lastAck := rfl
@[simp] theorem State.setReqs_link (s : State) (rs : List Request) : (s.setReqs rs).link = s.link := rfl
@[simp] theorem State.setReqs_rxbuf (s : State) (rs : List Request) : (s.setReqs rs).rxbuf = s.rxbuf := rfl
@[simp] theorem State.setReqs_framer (s : State) (rs : List Request) : (s.setReqs rs).framer = s.framer := rfl
@[simp] theorem State.setReqs_ferr (s : State) (rs : List Request) : (s.setReqs rs).ferr = s.ferr := rfl
@[simp] theorem State.setReqs_cfg (s : State) (rs : List Request) : (s.setReqs rs).cfg = s.cfg := rfl
@[simp] theorem State.setReqs_reqs (s : State) (rs : List Request) : (s.setReqs rs).reqs = rs := rfl
@[simp] theorem State.setReqs_resps (s : State) (rs : List Request) : (s.setReqs rs).resps = s.resps := rfl

/-! ### The block alone (R30): the updates of the owner's lists leave it as it is -/

@[simp] theorem State.respond_toBlock (s : State) (r : Response) : (s.respond r).toBlock = s.toBlock := rfl
@[simp] theorem State.setReqs_toBlock (s : State) (rs : List Request) : (s.setReqs rs).toBlock = s.toBlock := rfl
@[simp] theorem State.resetTo_toBlock (s : State) (c : Cfg) : (s.resetTo c).toBlock = Block.reset c := rfl

@[simp] theorem State.reset_toBlock : State.reset.toBlock = Block.reset profile104 := rfl
@[simp] theorem State.reset_reqs : State.reset.reqs = [] := rfl
@[simp] theorem State.reset_resps : State.reset.resps = [] := rfl
@[simp] theorem Block.reset_vs (c : Cfg) : (Block.reset c).vs = 0 := rfl
@[simp] theorem Block.reset_vr (c : Cfg) : (Block.reset c).vr = 0 := rfl
@[simp] theorem Block.reset_lastAck (c : Cfg) : (Block.reset c).lastAck = 0 := rfl
@[simp] theorem Block.reset_link (c : Cfg) : (Block.reset c).link = .connected := rfl
@[simp] theorem Block.reset_rxbuf (c : Cfg) : (Block.reset c).rxbuf = [] := rfl
@[simp] theorem Block.reset_framer (c : Cfg) : (Block.reset c).framer = .run := rfl
@[simp] theorem Block.reset_ferr (c : Cfg) : (Block.reset c).ferr = none := rfl
@[simp] theorem Block.reset_cfg (c : Cfg) : (Block.reset c).cfg = c := rfl

end Sys2Proof.Machine
end

