-- ==== Sys2Proof/Laws/Ops.lean ====
section
/-! SUPPORT. What the shared operations of Machine/Ops.lean and the step can answer, each said once. -/
namespace Sys2Proof.Machine

/-- The result is appended to the owner's list and nothing else changes. -/
theorem reply_eq (r : Response) (s : State) : reply r s = .next { s with resps := s.resps ++ [r] } := rfl

/-- Raising is replying with the error. -/
theorem raise_eq (e : Err) (s : State) : raise e s = reply (.err e) s := rfl

@[simp] theorem answer_ok (x : Response) (s : State) : answer (.ok x) s = reply x s := rfl

@[simp] theorem answer_error (e : Err) (s : State) : answer (.error e) s = reply (.err e) s := rfl

/-- A stateless operation always answers a next state. -/
theorem answer_next (r : Except Err Response) (s : State) :
    ∃ x, answer r s = .next (s.respond x) := by
  cases r with
  | ok x => exact ⟨x, rfl⟩
  | error e => exact ⟨.err e, rfl⟩

/-- What a stateless operation answers. -/
theorem answer_cases {r : Except Err Response} {s t : State} (h : answer r s = .next t) :
    (∃ x, r = .ok x ∧ t = s.respond x) ∨ (∃ e, r = .error e ∧ t = s.respond (.err e)) := by
  cases r with
  | ok x => exact .inl ⟨x, rfl, by simpa [answer, reply] using h.symm⟩
  | error e => exact .inr ⟨e, rfl, by simpa [answer, raise, reply] using h.symm⟩

/-! ### The step -/

theorem step_idle (s : State) (h : s.reqs = []) : step s = .next s := by simp [step, h]

theorem step_pending (s : State) {r : Request} {rest : List Request} (h : s.reqs = r :: rest) :
    step s = runRequest r (s.setReqs rest) := by simp [step, h]

theorem runRequest_instr {r : Request} {i : Instr} (s : State) (h : decode r = .ok i)
    (hw : i.wellFormed = true) : runRequest r s = exec i s := by simp [runRequest, h, hw]

theorem runRequest_illTyped {r : Request} {i : Instr} (s : State) (h : decode r = .ok i)
    (hw : i.wellFormed = false) : runRequest r s = .refused .illTypedOperand := by simp [runRequest, h, hw]

theorem runRequest_noRow {r : Request} {e : Reject} (s : State) (h : decode r = .error e) :
    runRequest r s = runOp r s := by simp [runRequest, h]

end Sys2Proof.Machine
end

