-- ==== Sys2Proof/Laws/Rows.lean ====
section
/-! SUPPORT. What a row of the opcode table determines: its layout, its checks, its encoding and its meaning, said once
for all 66 type identifiers and once for all six U actions. -/
namespace Sys2Proof
open Sys2Proof.Machine

set_option maxRecDepth 4000 in
/-- A supported type identifier fixes the layout, the well-formedness, the encoding and the meaning of its row. -/
theorem typeRow_facts {t : Byte} {mk : TypeOp → Instr} (h : typeRow t = some mk) :
    ∃ lay, layoutOf t = some lay ∧ (∀ op, (mk op).wellFormed = wellFormedType lay op) ∧
      (∀ op, encode (mk op) = encodeType t op) ∧ ∀ op s, exec (mk op) s = execTypeRow t lay op s := by
  unfold typeRow at h
  split at h <;>
    first
    | (rename_i heq
       have ht : t = BitVec.ofNat 8 t.toNat := by simp
       rw [heq] at ht
       subst ht
       cases h
       exact ⟨_, rfl, fun _ => rfl, fun _ => rfl, fun _ _ => rfl⟩)
    | cases h

/-- A type identifier has a row exactly when it has a layout. -/
theorem typeRow_none_iff (t : Byte) : typeRow t = none ↔ layoutOf t = none := by
  revert t; decide +kernel

/-- A U row fixes the well-formedness, the encoding and the meaning of its instructions. -/
theorem uRow_facts (act : UAct) (op : UOp) :
    (uRow act op).wellFormed = wellFormedU act op ∧ encode (uRow act op) = encodeU act op ∧
      ∀ s, exec (uRow act op) s = execURow act op s := by
  cases act <;> exact ⟨rfl, rfl, fun _ => rfl⟩

/-- Decoding on a type row. -/
theorem onType_ok {t : Byte} {op : TypeOp} {i : Instr} (h : onType t op = .ok i) :
    ∃ mk, typeRow t = some mk ∧ i = mk op := by
  unfold onType at h
  split at h
  · rename_i mk hm
    exact ⟨mk, hm, by simpa using h.symm⟩
  · cases h

/-- The format of a row's own code. -/
theorem formatOf_uCode (act : UAct) : formatOf (uCode act) = .u (some act) := by
  cases act <;> decide

/-- A control byte that selects a U row is that row's code. -/
theorem eq_uCode_of_formatOf (c : Byte) (act : UAct) (h : formatOf c = .u (some act)) : c = uCode act := by
  revert c; cases act <;> decide +kernel

end Sys2Proof
end

