-- ==== Sys2Proof/Laws/PerInstr.lean ====
section
/-! SUPPORT. Per-instruction laws: the family `DecodeEncode`. An instruction that the decoder gives encodes to the very
request it was decoded from, so no bit of an operand is dropped by decoding. -/
namespace Sys2Proof
open Sys2Proof.Machine

/-- A request that selects a row is the encoding of the instruction it selects. -/
theorem encode_of_decode {r : Request} {i : Instr} (h : decode r = .ok i) : encode i = r := by
  have onT : ∀ {t : Byte} {op : TypeOp}, onType t op = .ok i → encode i = encodeType t op := by
    intro t op h
    obtain ⟨mk, hm, rfl⟩ := onType_ok h
    obtain ⟨_, _, _, he, _⟩ := typeRow_facts hm
    exact he op
  have onC : ∀ {c : Byte} {a : IOp} {b : SOp} {u : UOp}, onControl c a b u = .ok i →
      encodeI a = r → encodeS b = r → (∀ act, c = uCode act → encodeU act u = r) → encode i = r := by
    intro c a b u h ha hb hu
    unfold onControl at h
    split at h
    · cases h; exact ha
    · cases h; exact hb
    · rename_i act hf
      cases h
      rw [(uRow_facts act u).2.1]
      exact hu act (eq_uCode_of_formatOf c act hf)
    · cases h
  unfold decode at h
  split at h <;>
    first
    | exact onT h
    | exact onC h rfl rfl (fun act hc => by subst hc; rfl)
    | (split at h
       · cases h
       · exact onC h rfl rfl fun _ _ => rfl)
    | (cases h; done)
    | (cases h; first | rfl | exact (uRow_facts _ _).2.1)

end Sys2Proof

namespace Sys2Proof.Laws.DecodeEncode

/-- Whatever request decodes to i is the encoding of i. -/
def Statement (i : Sys2Proof.Instr) : Prop :=
  ∀ r : Sys2Proof.Request, Sys2Proof.decode r = .ok i → Sys2Proof.encode i = r

theorem iFormat (op : Sys2Proof.IOp) : Statement (.iFormat op) := fun _ h => Sys2Proof.encode_of_decode h
theorem sFormat (op : Sys2Proof.SOp) : Statement (.sFormat op) := fun _ h => Sys2Proof.encode_of_decode h
theorem uStartdtAct (op : Sys2Proof.UOp) : Statement (.uStartdtAct op) := fun _ h => Sys2Proof.encode_of_decode h
theorem uStartdtCon (op : Sys2Proof.UOp) : Statement (.uStartdtCon op) := fun _ h => Sys2Proof.encode_of_decode h
theorem uStopdtAct (op : Sys2Proof.UOp) : Statement (.uStopdtAct op) := fun _ h => Sys2Proof.encode_of_decode h
theorem uStopdtCon (op : Sys2Proof.UOp) : Statement (.uStopdtCon op) := fun _ h => Sys2Proof.encode_of_decode h
theorem uTestfrAct (op : Sys2Proof.UOp) : Statement (.uTestfrAct op) := fun _ h => Sys2Proof.encode_of_decode h
theorem uTestfrCon (op : Sys2Proof.UOp) : Statement (.uTestfrCon op) := fun _ h => Sys2Proof.encode_of_decode h
theorem mSpNa1 (op : Sys2Proof.TypeOp) : Statement (.mSpNa1 op) := fun _ h => Sys2Proof.encode_of_decode h
theorem mSpTa1 (op : Sys2Proof.TypeOp) : Statement (.mSpTa1 op) := fun _ h => Sys2Proof.encode_of_decode h
theorem mDpNa1 (op : Sys2Proof.TypeOp) : Statement (.mDpNa1 op) := fun _ h => Sys2Proof.encode_of_decode h
theorem mDpTa1 (op : Sys2Proof.TypeOp) : Statement (.mDpTa1 op) := fun _ h => Sys2Proof.encode_of_decode h
theorem mStNa1 (op : Sys2Proof.TypeOp) : Statement (.mStNa1 op) := fun _ h => Sys2Proof.encode_of_decode h
theorem mStTa1 (op : Sys2Proof.TypeOp) : Statement (.mStTa1 op) := fun _ h => Sys2Proof.encode_of_decode h
theorem mBoNa1 (op : Sys2Proof.TypeOp) : Statement (.mBoNa1 op) := fun _ h => Sys2Proof.encode_of_decode h
theorem mBoTa1 (op : Sys2Proof.TypeOp) : Statement (.mBoTa1 op) := fun _ h => Sys2Proof.encode_of_decode h
theorem mMeNa1 (op : Sys2Proof.TypeOp) : Statement (.mMeNa1 op) := fun _ h => Sys2Proof.encode_of_decode h
theorem mMeTa1 (op : Sys2Proof.TypeOp) : Statement (.mMeTa1 op) := fun _ h => Sys2Proof.encode_of_decode h
theorem mMeNb1 (op : Sys2Proof.TypeOp) : Statement (.mMeNb1 op) := fun _ h => Sys2Proof.encode_of_decode h
theorem mMeTb1 (op : Sys2Proof.TypeOp) : Statement (.mMeTb1 op) := fun _ h => Sys2Proof.encode_of_decode h
theorem mMeNc1 (op : Sys2Proof.TypeOp) : Statement (.mMeNc1 op) := fun _ h => Sys2Proof.encode_of_decode h
theorem mMeTc1 (op : Sys2Proof.TypeOp) : Statement (.mMeTc1 op) := fun _ h => Sys2Proof.encode_of_decode h
theorem mItNa1 (op : Sys2Proof.TypeOp) : Statement (.mItNa1 op) := fun _ h => Sys2Proof.encode_of_decode h
theorem mItTa1 (op : Sys2Proof.TypeOp) : Statement (.mItTa1 op) := fun _ h => Sys2Proof.encode_of_decode h
theorem mEpTa1 (op : Sys2Proof.TypeOp) : Statement (.mEpTa1 op) := fun _ h => Sys2Proof.encode_of_decode h
theorem mEpTb1 (op : Sys2Proof.TypeOp) : Statement (.mEpTb1 op) := fun _ h => Sys2Proof.encode_of_decode h
theorem mEpTc1 (op : Sys2Proof.TypeOp) : Statement (.mEpTc1 op) := fun _ h => Sys2Proof.encode_of_decode h
theorem mPsNa1 (op : Sys2Proof.TypeOp) : Statement (.mPsNa1 op) := fun _ h => Sys2Proof.encode_of_decode h
theorem mMeNd1 (op : Sys2Proof.TypeOp) : Statement (.mMeNd1 op) := fun _ h => Sys2Proof.encode_of_decode h
theorem mSpTb1 (op : Sys2Proof.TypeOp) : Statement (.mSpTb1 op) := fun _ h => Sys2Proof.encode_of_decode h
theorem mDpTb1 (op : Sys2Proof.TypeOp) : Statement (.mDpTb1 op) := fun _ h => Sys2Proof.encode_of_decode h
theorem mStTb1 (op : Sys2Proof.TypeOp) : Statement (.mStTb1 op) := fun _ h => Sys2Proof.encode_of_decode h
theorem mBoTb1 (op : Sys2Proof.TypeOp) : Statement (.mBoTb1 op) := fun _ h => Sys2Proof.encode_of_decode h
theorem mMeTd1 (op : Sys2Proof.TypeOp) : Statement (.mMeTd1 op) := fun _ h => Sys2Proof.encode_of_decode h
theorem mMeTe1 (op : Sys2Proof.TypeOp) : Statement (.mMeTe1 op) := fun _ h => Sys2Proof.encode_of_decode h
theorem mMeTf1 (op : Sys2Proof.TypeOp) : Statement (.mMeTf1 op) := fun _ h => Sys2Proof.encode_of_decode h
theorem mItTb1 (op : Sys2Proof.TypeOp) : Statement (.mItTb1 op) := fun _ h => Sys2Proof.encode_of_decode h
theorem mEpTd1 (op : Sys2Proof.TypeOp) : Statement (.mEpTd1 op) := fun _ h => Sys2Proof.encode_of_decode h
theorem mEpTe1 (op : Sys2Proof.TypeOp) : Statement (.mEpTe1 op) := fun _ h => Sys2Proof.encode_of_decode h
theorem mEpTf1 (op : Sys2Proof.TypeOp) : Statement (.mEpTf1 op) := fun _ h => Sys2Proof.encode_of_decode h
theorem cScNa1 (op : Sys2Proof.TypeOp) : Statement (.cScNa1 op) := fun _ h => Sys2Proof.encode_of_decode h
theorem cDcNa1 (op : Sys2Proof.TypeOp) : Statement (.cDcNa1 op) := fun _ h => Sys2Proof.encode_of_decode h
theorem cRcNa1 (op : Sys2Proof.TypeOp) : Statement (.cRcNa1 op) := fun _ h => Sys2Proof.encode_of_decode h
theorem cSeNa1 (op : Sys2Proof.TypeOp) : Statement (.cSeNa1 op) := fun _ h => Sys2Proof.encode_of_decode h
theorem cSeNb1 (op : Sys2Proof.TypeOp) : Statement (.cSeNb1 op) := fun _ h => Sys2Proof.encode_of_decode h
theorem cSeNc1 (op : Sys2Proof.TypeOp) : Statement (.cSeNc1 op) := fun _ h => Sys2Proof.encode_of_decode h
theorem cBoNa1 (op : Sys2Proof.TypeOp) : Statement (.cBoNa1 op) := fun _ h => Sys2Proof.encode_of_decode h
theorem cScTa1 (op : Sys2Proof.TypeOp) : Statement (.cScTa1 op) := fun _ h => Sys2Proof.encode_of_decode h
theorem cDcTa1 (op : Sys2Proof.TypeOp) : Statement (.cDcTa1 op) := fun _ h => Sys2Proof.encode_of_decode h
theorem cRcTa1 (op : Sys2Proof.TypeOp) : Statement (.cRcTa1 op) := fun _ h => Sys2Proof.encode_of_decode h
theorem cSeTa1 (op : Sys2Proof.TypeOp) : Statement (.cSeTa1 op) := fun _ h => Sys2Proof.encode_of_decode h
theorem cSeTb1 (op : Sys2Proof.TypeOp) : Statement (.cSeTb1 op) := fun _ h => Sys2Proof.encode_of_decode h
theorem cSeTc1 (op : Sys2Proof.TypeOp) : Statement (.cSeTc1 op) := fun _ h => Sys2Proof.encode_of_decode h
theorem cBoTa1 (op : Sys2Proof.TypeOp) : Statement (.cBoTa1 op) := fun _ h => Sys2Proof.encode_of_decode h
theorem mEiNa1 (op : Sys2Proof.TypeOp) : Statement (.mEiNa1 op) := fun _ h => Sys2Proof.encode_of_decode h
theorem cIcNa1 (op : Sys2Proof.TypeOp) : Statement (.cIcNa1 op) := fun _ h => Sys2Proof.encode_of_decode h
theorem cCiNa1 (op : Sys2Proof.TypeOp) : Statement (.cCiNa1 op) := fun _ h => Sys2Proof.encode_of_decode h
theorem cRdNa1 (op : Sys2Proof.TypeOp) : Statement (.cRdNa1 op) := fun _ h => Sys2Proof.encode_of_decode h
theorem cCsNa1 (op : Sys2Proof.TypeOp) : Statement (.cCsNa1 op) := fun _ h => Sys2Proof.encode_of_decode h
theorem cTsNa1 (op : Sys2Proof.TypeOp) : Statement (.cTsNa1 op) := fun _ h => Sys2Proof.encode_of_decode h
theorem cRpNa1 (op : Sys2Proof.TypeOp) : Statement (.cRpNa1 op) := fun _ h => Sys2Proof.encode_of_decode h
theorem cCdNa1 (op : Sys2Proof.TypeOp) : Statement (.cCdNa1 op) := fun _ h => Sys2Proof.encode_of_decode h
theorem cTsTa1 (op : Sys2Proof.TypeOp) : Statement (.cTsTa1 op) := fun _ h => Sys2Proof.encode_of_decode h
theorem pMeNa1 (op : Sys2Proof.TypeOp) : Statement (.pMeNa1 op) := fun _ h => Sys2Proof.encode_of_decode h
theorem pMeNb1 (op : Sys2Proof.TypeOp) : Statement (.pMeNb1 op) := fun _ h => Sys2Proof.encode_of_decode h
theorem pMeNc1 (op : Sys2Proof.TypeOp) : Statement (.pMeNc1 op) := fun _ h => Sys2Proof.encode_of_decode h
theorem pAcNa1 (op : Sys2Proof.TypeOp) : Statement (.pAcNa1 op) := fun _ h => Sys2Proof.encode_of_decode h
theorem fFrNa1 (op : Sys2Proof.TypeOp) : Statement (.fFrNa1 op) := fun _ h => Sys2Proof.encode_of_decode h
theorem fSrNa1 (op : Sys2Proof.TypeOp) : Statement (.fSrNa1 op) := fun _ h => Sys2Proof.encode_of_decode h
theorem fScNa1 (op : Sys2Proof.TypeOp) : Statement (.fScNa1 op) := fun _ h => Sys2Proof.encode_of_decode h
theorem fLsNa1 (op : Sys2Proof.TypeOp) : Statement (.fLsNa1 op) := fun _ h => Sys2Proof.encode_of_decode h
theorem fAfNa1 (op : Sys2Proof.TypeOp) : Statement (.fAfNa1 op) := fun _ h => Sys2Proof.encode_of_decode h
theorem fDrTa1 (op : Sys2Proof.TypeOp) : Statement (.fDrTa1 op) := fun _ h => Sys2Proof.encode_of_decode h
theorem fScNb1 (op : Sys2Proof.TypeOp) : Statement (.fScNb1 op) := fun _ h => Sys2Proof.encode_of_decode h

end Sys2Proof.Laws.DecodeEncode
end

