-- ==== Sys2Proof/Tests/Slice0.lean ====
section
/-! SUPPORT. Tests by kernel evaluation, every expected result from the spec: the words of the opcode table written out
from 30_encoding, the vectors of 95_test_vectors, the well-formedness checks, and the witnesses of the obligations'
hypotheses. -/
set_option Elab.async false
namespace Sys2Proof.Tests
open Sys2Proof Sys2Proof.Machine Sys2Proof.Claims

/-! ### Helpers -/

/-- No quality flag set. -/
def noQ : Q4 := { bl := false, sb := false, nt := false, iv := false }

/-- Every quality flag set. -/
def allQ : Q4 := { bl := true, sb := true, nt := true, iv := true }

/-- The time tag `10 27 85` of the examples. -/
def t24 : CP24 := { ms := 10000, min := 5, iv := true }

/-- The time tag `10 27 05 8C 6F 0B 18` of the examples. -/
def t56 : CP56 :=
  { ms := 10000, min := 5, iv := false, hour := 12, su := true, day := 15, dow := 3, month := 11, year := 24 }

/-- The reset state under the configuration c with the operations rs issued. -/
def stateOf (c : Cfg) (rs : List Request) : State := { State.reset with cfg := c, reqs := rs }

/-- The state of a link vector: counters (vs, vr, ack) and the operation r issued. -/
def linkState (vs vr ack : Seq15) (r : Request) : State :=
  { State.reset with vs := vs, vr := vr, lastAck := ack, reqs := [r] }

/-- The results after one step. -/
def resultIn (s : State) : List Response :=
  match step s with
  | .next t => t.resps
  | _ => []

/-- Counters and link after one step. -/
def linkAfter (s : State) : Option (Seq15 × Seq15 × Seq15 × Link) :=
  match step s with
  | .next t => some (t.vs, t.vr, t.lastAck, t.link)
  | _ => none

/-- Framer fields after one step. -/
def framerAfter (s : State) : Option (Span × Framer × Option Malformed) :=
  match step s with
  | .next t => some (t.rxbuf, t.framer, t.ferr)
  | _ => none

/-- Whether one step is refused for its operands. -/
def refusedOperand (s : State) : Bool :=
  match step s with
  | .refused .illTypedOperand => true
  | _ => false

/-- The result of one operation under the 104 profile. -/
def result (r : Request) : List Response := resultIn (stateOf profile104 [r])

/-- The profile c111 of 95_test_vectors 2.3. -/
def c111 : Cfg := { cotW := 1, caW := 1, ioaW := 1, maxLen := 253, sTxAdvancesVs := true }

/-- The ASDU of 95_test_vectors 2.2: one object at address 1. -/
def oneObject (t : Byte) (cause : Nat) (v : Record) : Asdu :=
  { ti := t, sq := false, n := 1, cot := { cause := cause, pn := false, test := false, oa := some 0 }, ca := 1,
    objs := [{ ioa := 1, val := v }] }

/-- ASDU_DEC of A gives a, and ASDU_ENC of a gives A. -/
abbrev bothWays (A : Span) (a : Asdu) : Prop :=
  result (.asduDec A) = [.asdu a] ∧ result (.asduEnc a) = [.bytes A]

/-- Single point ON and OFF, no quality flag. -/
def spOn : Record := [(.siq, .siq { noQ with spi := true })]
def spOff : Record := [(.siq, .siq { noQ with spi := false })]

/-- A single-point ASDU with the objects given as (address, value). -/
def spAsdu (sq : Bool) (n cause : Nat) (oa : Option Nat) (objs : List (Nat × Record)) : Asdu :=
  { ti := 1, sq := sq, n := n, cot := { cause := cause, pn := false, test := false, oa := oa }, ca := 1,
    objs := objs.map fun o => { ioa := o.1, val := o.2 } }

/-- The record of vector A16. -/
def a16 : Asdu := spAsdu false 1 3 (some 0) [(10, spOn)]

/-- The interrogation ASDU `g` of A29. -/
def g : Asdu :=
  { ti := 100, sq := false, n := 1, cot := { cause := 6, pn := false, test := false, oa := some 0 }, ca := 1,
    objs := [{ ioa := 0, val := [(.qoi, .qoi 20)] }] }

/-- The ASDU bytes of `g`. -/
def gBytes : Span := [0x64, 0x01, 0x06, 0x00, 0x01, 0x00, 0x00, 0x00, 0x00, 0x14]

/-- Errors as results. -/
def mf (m : Malformed) : List Response := [.err (.malformedFrame m)]
def x1 (f : RangeField) : List Response := [.err (.encodeError (.x1 f))]

/-! ### Decoding the words of the opcode table -/

/-- R72 to R76: c0 = 00, 01 and the six action codes, each with three more control bytes, select their rows. -/
theorem test_decode_control_words :
    decode (.apciDec [0x02, 0x00, 0x04, 0x00]) = .ok (.iFormat (.apciDec 0x02 0x00 0x04 0x00)) ∧
    decode (.apciDec [0x01, 0x00, 0x0A, 0x00]) = .ok (.sFormat (.apciDec 0x01 0x00 0x0A 0x00)) ∧
    decode (.apciDec [0b00000111, 0x00, 0x00, 0x00]) = .ok (.uStartdtAct (.apciDec 0x00 0x00 0x00)) ∧
    decode (.apciDec [0b00001011, 0x00, 0x00, 0x00]) = .ok (.uStartdtCon (.apciDec 0x00 0x00 0x00)) ∧
    decode (.apciDec [0b00010011, 0x00, 0x00, 0x00]) = .ok (.uStopdtAct (.apciDec 0x00 0x00 0x00)) ∧
    decode (.apciDec [0b00100011, 0x00, 0x00, 0x00]) = .ok (.uStopdtCon (.apciDec 0x00 0x00 0x00)) ∧
    decode (.apciDec [0b01000011, 0x00, 0x00, 0x00]) = .ok (.uTestfrAct (.apciDec 0x00 0x00 0x00)) ∧
    decode (.apciDec [0b10000011, 0x00, 0x00, 0x00]) = .ok (.uTestfrCon (.apciDec 0x00 0x00 0x00)) := by
  decide +kernel

/-- R72: byte 2 of a frame slice selects the row of FRAME_DEC. -/
theorem test_decode_frame_words :
    decode (.frameDec [0x68, 0x04, 0x00, 0x00, 0x00, 0x00]) = .ok (.iFormat (.frameDec [0x68, 0x04, 0x00, 0x00, 0x00, 0x00])) ∧
    decode (.frameDec [0x68, 0x04, 0x01, 0x00, 0x0A, 0x00]) = .ok (.sFormat (.frameDec [0x68, 0x04, 0x01, 0x00, 0x0A, 0x00])) ∧
    decode (.frameDec [0x68, 0x04, 0x43, 0x00, 0x00, 0x00]) =
      .ok (.uTestfrAct (.frameDec [0x68, 0x04, 0x43, 0x00, 0x00, 0x00])) := by
  decide +kernel

/-- R89: no action bit, two and six action bits select no row. -/
theorem test_decode_bad_u_patterns :
    decode (.apciDec [0x03, 0, 0, 0]) = .error (.badUAction 0x03) ∧
    decode (.apciDec [0x0F, 0, 0, 0]) = .error (.badUAction 0x0F) ∧
    decode (.apciDec [0xFF, 0, 0, 0]) = .error (.badUAction 0xFF) ∧
    decode (.apciDec [0x00, 0, 0]) = .error .noSelector := by
  decide +kernel

/-- R84: the type identifier byte of each monitor type selects its row. -/
theorem test_decode_monitor_words (S : Span) :
    decode (.asduDec (0x01 :: S)) = .ok (.mSpNa1 (.asduDec S)) ∧
    decode (.asduDec (0x02 :: S)) = .ok (.mSpTa1 (.asduDec S)) ∧
    decode (.asduDec (0x03 :: S)) = .ok (.mDpNa1 (.asduDec S)) ∧
    decode (.asduDec (0x04 :: S)) = .ok (.mDpTa1 (.asduDec S)) ∧
    decode (.asduDec (0x05 :: S)) = .ok (.mStNa1 (.asduDec S)) ∧
    decode (.asduDec (0x06 :: S)) = .ok (.mStTa1 (.asduDec S)) ∧
    decode (.asduDec (0x07 :: S)) = .ok (.mBoNa1 (.asduDec S)) ∧
    decode (.asduDec (0x08 :: S)) = .ok (.mBoTa1 (.asduDec S)) ∧
    decode (.asduDec (0x09 :: S)) = .ok (.mMeNa1 (.asduDec S)) ∧
    decode (.asduDec (0x0A :: S)) = .ok (.mMeTa1 (.asduDec S)) ∧
    decode (.asduDec (0x0B :: S)) = .ok (.mMeNb1 (.asduDec S)) ∧
    decode (.asduDec (0x0C :: S)) = .ok (.mMeTb1 (.asduDec S)) ∧
    decode (.asduDec (0x0D :: S)) = .ok (.mMeNc1 (.asduDec S)) ∧
    decode (.asduDec (0x0E :: S)) = .ok (.mMeTc1 (.asduDec S)) ∧
    decode (.asduDec (0x0F :: S)) = .ok (.mItNa1 (.asduDec S)) ∧
    decode (.asduDec (0x10 :: S)) = .ok (.mItTa1 (.asduDec S)) ∧
    decode (.asduDec (0x11 :: S)) = .ok (.mEpTa1 (.asduDec S)) ∧
    decode (.asduDec (0x12 :: S)) = .ok (.mEpTb1 (.asduDec S)) ∧
    decode (.asduDec (0x13 :: S)) = .ok (.mEpTc1 (.asduDec S)) ∧
    decode (.asduDec (0x14 :: S)) = .ok (.mPsNa1 (.asduDec S)) ∧
    decode (.asduDec (0x15 :: S)) = .ok (.mMeNd1 (.asduDec S)) := by
  repeat' constructor

/-- R84: the type identifier byte of each monitor_cp56 type selects its row. -/
theorem test_decode_monitor_cp56_words (S : Span) :
    decode (.asduDec (0x1E :: S)) = .ok (.mSpTb1 (.asduDec S)) ∧
    decode (.asduDec (0x1F :: S)) = .ok (.mDpTb1 (.asduDec S)) ∧
    decode (.asduDec (0x20 :: S)) = .ok (.mStTb1 (.asduDec S)) ∧
    decode (.asduDec (0x21 :: S)) = .ok (.mBoTb1 (.asduDec S)) ∧
    decode (.asduDec (0x22 :: S)) = .ok (.mMeTd1 (.asduDec S)) ∧
    decode (.asduDec (0x23 :: S)) = .ok (.mMeTe1 (.asduDec S)) ∧
    decode (.asduDec (0x24 :: S)) = .ok (.mMeTf1 (.asduDec S)) ∧
    decode (.asduDec (0x25 :: S)) = .ok (.mItTb1 (.asduDec S)) ∧
    decode (.asduDec (0x26 :: S)) = .ok (.mEpTd1 (.asduDec S)) ∧
    decode (.asduDec (0x27 :: S)) = .ok (.mEpTe1 (.asduDec S)) ∧
    decode (.asduDec (0x28 :: S)) = .ok (.mEpTf1 (.asduDec S)) := by
  repeat' constructor

/-- R84: the type identifier byte of each command type selects its row. -/
theorem test_decode_command_words (S : Span) :
    decode (.asduDec (0x2D :: S)) = .ok (.cScNa1 (.asduDec S)) ∧
    decode (.asduDec (0x2E :: S)) = .ok (.cDcNa1 (.asduDec S)) ∧
    decode (.asduDec (0x2F :: S)) = .ok (.cRcNa1 (.asduDec S)) ∧
    decode (.asduDec (0x30 :: S)) = .ok (.cSeNa1 (.asduDec S)) ∧
    decode (.asduDec (0x31 :: S)) = .ok (.cSeNb1 (.asduDec S)) ∧
    decode (.asduDec (0x32 :: S)) = .ok (.cSeNc1 (.asduDec S)) ∧
    decode (.asduDec (0x33 :: S)) = .ok (.cBoNa1 (.asduDec S)) ∧
    decode (.asduDec (0x3A :: S)) = .ok (.cScTa1 (.asduDec S)) ∧
    decode (.asduDec (0x3B :: S)) = .ok (.cDcTa1 (.asduDec S)) ∧
    decode (.asduDec (0x3C :: S)) = .ok (.cRcTa1 (.asduDec S)) ∧
    decode (.asduDec (0x3D :: S)) = .ok (.cSeTa1 (.asduDec S)) ∧
    decode (.asduDec (0x3E :: S)) = .ok (.cSeTb1 (.asduDec S)) ∧
    decode (.asduDec (0x3F :: S)) = .ok (.cSeTc1 (.asduDec S)) ∧
    decode (.asduDec (0x40 :: S)) = .ok (.cBoTa1 (.asduDec S)) := by
  repeat' constructor

/-- R84: the type identifier byte of each system type selects its row. -/
theorem test_decode_system_words (S : Span) :
    decode (.asduDec (0x46 :: S)) = .ok (.mEiNa1 (.asduDec S)) ∧
    decode (.asduDec (0x64 :: S)) = .ok (.cIcNa1 (.asduDec S)) ∧
    decode (.asduDec (0x65 :: S)) = .ok (.cCiNa1 (.asduDec S)) ∧
    decode (.asduDec (0x66 :: S)) = .ok (.cRdNa1 (.asduDec S)) ∧
    decode (.asduDec (0x67 :: S)) = .ok (.cCsNa1 (.asduDec S)) ∧
    decode (.asduDec (0x68 :: S)) = .ok (.cTsNa1 (.asduDec S)) ∧
    decode (.asduDec (0x69 :: S)) = .ok (.cRpNa1 (.asduDec S)) ∧
    decode (.asduDec (0x6A :: S)) = .ok (.cCdNa1 (.asduDec S)) ∧
    decode (.asduDec (0x6B :: S)) = .ok (.cTsTa1 (.asduDec S)) := by
  repeat' constructor

/-- R84: the type identifier byte of each parameter type selects its row. -/
theorem test_decode_parameter_words (S : Span) :
    decode (.asduDec (0x6E :: S)) = .ok (.pMeNa1 (.asduDec S)) ∧
    decode (.asduDec (0x6F :: S)) = .ok (.pMeNb1 (.asduDec S)) ∧
    decode (.asduDec (0x70 :: S)) = .ok (.pMeNc1 (.asduDec S)) ∧
    decode (.asduDec (0x71 :: S)) = .ok (.pAcNa1 (.asduDec S)) := by
  repeat' constructor

/-- R84: the type identifier byte of each file type selects its row. -/
theorem test_decode_file_words (S : Span) :
    decode (.asduDec (0x78 :: S)) = .ok (.fFrNa1 (.asduDec S)) ∧
    decode (.asduDec (0x79 :: S)) = .ok (.fSrNa1 (.asduDec S)) ∧
    decode (.asduDec (0x7A :: S)) = .ok (.fScNa1 (.asduDec S)) ∧
    decode (.asduDec (0x7B :: S)) = .ok (.fLsNa1 (.asduDec S)) ∧
    decode (.asduDec (0x7C :: S)) = .ok (.fAfNa1 (.asduDec S)) ∧
    decode (.asduDec (0x7E :: S)) = .ok (.fDrTa1 (.asduDec S)) ∧
    decode (.asduDec (0x7F :: S)) = .ok (.fScNb1 (.asduDec S)) := by
  repeat' constructor

/-- R85, R86: 0, 22, 125 and 128 are no supported type identifiers. -/
theorem test_decode_unsupported_types (S : Span) :
    decode (.elemDec 0 S) = .error (.unknownTypeId 0) ∧ decode (.elemDec 22 S) = .error (.unknownTypeId 22) ∧
    decode (.elemDec 125 S) = .error (.unknownTypeId 125) ∧ decode (.elemDec 128 S) = .error (.unknownTypeId 128) := by
  repeat' constructor

/-- R193: exactly 66 of the 256 values of the byte are supported. -/
theorem test_supported_types_are_66 :
    ((List.range 256).filter fun t => (layoutOf (byte t)).isSome).length = 66 := by
  decide +kernel

/-- R294: over the 256 values of c0, 128 select I, 64 select S, 6 a U action and 58 none. -/
theorem test_control_byte_counts :
    ((List.range 256).filter fun c => formatOf (byte c) = .i).length = 128 ∧
    ((List.range 256).filter fun c => formatOf (byte c) = .s).length = 64 ∧
    ((List.range 256).filter fun c => formatOf (byte c) = .u none).length = 58 := by
  decide +kernel

/-- The opcode-table words of an I code, a type identifier and a U code that is no type identifier. -/
theorem test_table_words :
    decodeTableWord 8 0x00 = some (.iFormat (.apciDec 0 0 0 0)) ∧
    decodeTableWord 8 0x01 = some (.mSpNa1 (.elemDec [0])) ∧
    decodeTableWord 8 0x43 = some (.uTestfrAct (.apciDec 0 0 0)) ∧
    decodeTableWord 8 0xFD = some (.sFormat (.apciDec 0xFD 0 0 0)) ∧ decodeTableWord 8 0x03 = some (.mDpNa1 (.elemDec [0])) ∧
    decodeTableWord 8 0xFF = none := by
  decide +kernel

/-- The word placed by withFetchWord is what the next step runs. -/
theorem test_fetch_word_runs :
    resultIn (State.reset.withFetchWord 8 0x64) = [.elem [(.qoi, .qoi 0)]] ∧
    resultIn (State.reset.withFetchWord 8 0x83) = [.apci (.u .testfrCon)] := by
  decide +kernel

/-! ### Well-formedness: an ill-formed term for each check, refused -/

theorem test_wf_i_control_byte : (Instr.iFormat (.apciDec 0x01 0 0 0)).wellFormed = false := by decide +kernel
theorem test_wf_s_control_byte : (Instr.sFormat (.apciDec 0x03 0 0 0)).wellFormed = false := by decide +kernel
theorem test_wf_i_frame_byte : (Instr.iFormat (.frameDec [0x68, 4, 1, 0, 0, 0])).wellFormed = false := by decide +kernel
theorem test_wf_i_frame_short : (Instr.iFormat (.frameDec [0x68, 4])).wellFormed = false := by decide +kernel
theorem test_wf_s_frame_byte : (Instr.sFormat (.frameDec [0x68, 4, 0, 0, 0, 0])).wellFormed = false := by decide +kernel
theorem test_wf_u_frame_byte : (Instr.uStartdtAct (.frameDec [0x68, 4, 0x0B, 0, 0, 0])).wellFormed = false := by
  decide +kernel
theorem test_wf_record_missing_field : (Instr.mSpTa1 (.elemEnc spOn)).wellFormed = false := by decide +kernel
theorem test_wf_record_wrong_element : (Instr.mSpNa1 (.elemEnc [(.siq, .qoi 1)])).wellFormed = false := by
  decide +kernel
theorem test_wf_object_value : (Instr.mDpNa1 (.asduEnc a16.toAsduBody)).wellFormed = false := by decide +kernel
theorem test_wf_nested_asdu :
    (Instr.iFormat (.linkTx { a16 with ti := 3 })).wellFormed = false ∧
    (Instr.iFormat (.compose 0 0 (some { a16 with ti := 3 }))).wellFormed = false ∧
    (Instr.iFormat (.linkRx 0 0 { a16 with ti := 3 })).wellFormed = false ∧
    (Instr.sFormat (.compose 0 (some { a16 with ti := 3 }))).wellFormed = false ∧
    (Instr.uTestfrAct (.compose (some { a16 with ti := 3 }))).wellFormed = false := by
  decide +kernel

/-- R191, R48, R360: operands that are no values of their types are refused before the operation. -/
theorem test_ill_typed_operands_refused :
    refusedOperand (stateOf profile104 [.elemEnc 1 []]) = true ∧
    refusedOperand (stateOf profile104 [.linkRx { apci := .i 0 0, asdu := none }]) = true ∧
    refusedOperand (stateOf profile104 [.linkRx { apci := .s 0, asdu := some g }]) = true ∧
    refusedOperand (stateOf profile104 [.reset { profile104 with maxLen := 3 }]) = true := by
  decide +kernel

/-! ### Element codecs: 95_test_vectors E1 and V1 to V58 -/

/-- V1 to V4, V6, V7, V10, V12 to V16. -/
theorem test_status_elements_decode :
    elemDecode .qds [0x0E] = .ok (.qds { noQ with ov := false }) ∧
    elemDecode .qds [0xF1] = .ok (.qds { allQ with ov := true }) ∧
    elemDecode .siq [0x0E] = .ok (.siq { noQ with spi := false }) ∧
    elemDecode .diq [0x93] = .ok (.diq { bl := true, sb := false, nt := false, iv := true, dpi := 3 }) ∧
    elemDecode .vti [0x7F] = .ok (.vti { value := -1, t := false }) ∧
    elemDecode .vti [0x80] = .ok (.vti { value := 0, t := true }) ∧
    elemDecode .vti [0xC0] = .ok (.vti { value := -64, t := true }) ∧
    elemDecode .bsi [0x01, 0x00, 0x00, 0x80] = .ok (.bsi 0x80000001) ∧
    elemDecode .scd [0xFF, 0xFF, 0x00, 0x00] = .ok (.scd { st := 0xFFFF, cd := 0 }) ∧
    elemDecode .qdp [0x88] = .ok (.qdp { bl := false, sb := false, nt := false, iv := true, ei := true }) ∧
    elemDecode .sep [0x0E] = .ok (.sep { noQ with es := 2, ei := true }) ∧
    elemDecode .spe [0xC3] = .ok (.spe { gs := true, sl1 := true, sl2 := false, sl3 := false, sie := false, srd := false }) ∧
    elemDecode .oci [0xF0] = .ok (.oci { gc := false, cl1 := false, cl2 := false, cl3 := false }) := by
  decide +kernel

/-- V3, V5, V8, V9, V11, V54. -/
theorem test_status_elements_encode :
    elemEncode (.siq { bl := true, sb := false, nt := false, iv := false, spi := true }) = .ok [0x11] ∧
    elemEncode (.diq { noQ with dpi := 4 }) = .error (fieldRange .diq .dpi) ∧
    elemEncode (.vti { value := 64, t := false }) = .error (fieldRange .vti .value) ∧
    elemEncode (.vti { value := -64, t := false }) = .ok [0x40] ∧
    elemEncode (.bsi 0x12345678) = .ok [0x78, 0x56, 0x34, 0x12] ∧
    elemDecode .siq [0x01, 0x00] = .error (.malformedFrame (.m11 (.element .siq) 2)) := by
  decide +kernel

/-- V17 to V27 and the counter extremes of E1. -/
theorem test_values_and_counters :
    elemDecode .nva [0xFF, 0xFF] = .ok (.nva (-1)) ∧ elemDecode .nva [0x40, 0x00] = .ok (.nva 16384) ∧
    elemDecode .nva [0x80, 0x00] = .ok (.nva (-32768)) ∧ elemEncode (.nva (-32768)) = .ok [0x80, 0x00] ∧
    elemEncode (.nva (-32769)) = .error (fieldRange .nva .raw) ∧
    elemDecode .sva [0x01, 0x2C] = .ok (.sva 300) ∧ elemEncode (.sva (-2)) = .ok [0xFF, 0xFE] ∧
    elemDecode .r32 [0x00, 0x00, 0x80, 0x3F] = .ok (.r32 0x3F800000) ∧
    elemDecode .r32 [0x00, 0x00, 0xC0, 0x7F] = .ok (.r32 0x7FC00000) ∧
    elemEncode (.r32 0xC1200000) = .ok [0x00, 0x00, 0x20, 0xC1] ∧
    elemDecode .bcr [0xE8, 0x03, 0x00, 0x00, 0xA1] =
      .ok (.bcr { counter := 1000, sq := 1, cy := true, ca := false, iv := true }) ∧
    elemDecode .bcr [0x00, 0x00, 0x00, 0x80, 0x00] =
      .ok (.bcr { counter := -2147483648, sq := 0, cy := false, ca := false, iv := false }) ∧
    elemEncode (.bcr { counter := -2, sq := 0, cy := false, ca := true, iv := false }) =
      .ok [0xFE, 0xFF, 0xFF, 0xFF, 0x40] ∧
    elemEncode (.bcr { counter := 2147483648, sq := 0, cy := false, ca := false, iv := false }) =
      .error (fieldRange .bcr .counter) := by
  decide +kernel

/-- V28 to V46. -/
theorem test_qualifiers_and_file_elements :
    elemDecode .sco [0x02] = .ok (.sco { scs := false, qu := 0, se := false }) ∧
    elemEncode (.sco { scs := true, qu := 31, se := true }) = .ok [0xFD] ∧
    elemDecode .dco [0x82] = .ok (.dco { dcs := 2, qu := 0, se := true }) ∧
    elemDecode .dco [0x00] = .ok (.dco { dcs := 0, qu := 0, se := false }) ∧
    elemDecode .rco [0x0A] = .ok (.rco { rcs := 2, qu := 2, se := false }) ∧
    elemEncode (.qos { ql := 128, se := false }) = .error (fieldRange .qos .ql) ∧
    elemDecode .qoi [0x14] = .ok (.qoi 20) ∧ elemDecode .qcc [0x45] = .ok (.qcc { rqt := 5, frz := 1 }) ∧
    elemDecode .qpm [0xC1] = .ok (.qpm { kpa := 1, lpc := true, pop := true }) ∧
    elemDecode .coi [0x82] = .ok (.coi { cause := 2, bs1 := true }) ∧
    elemDecode .fbp [0xAA, 0x55] = .ok (.fbp 0x55AA) ∧ elemDecode .fbp [0x00, 0x00] = .ok (.fbp 0) ∧
    elemDecode .tsc [0x34, 0x12] = .ok (.tsc 0x1234) ∧ elemDecode .nof [0x01, 0x00] = .ok (.nof 1) ∧
    elemDecode .lof [0xFF, 0xFF, 0xFF] = .ok (.lof 16777215) ∧
    elemEncode (.lof 16777216) = .error (fieldRange .lof .value) ∧ elemDecode .los [0xF0] = .ok (.los 240) ∧
    elemDecode .scq [0x21] = .ok (.scq { code := 1, err := 2 }) ∧
    elemDecode .afq [0x14] = .ok (.afq { code := 4, err := 1 }) ∧
    elemDecode .sof [0xE0] = .ok (.sof { status := 0, lfd := true, forDir := true, fa := true }) := by
  decide +kernel

/-- V47 to V53 and the all-ones time tag of E1. -/
theorem test_time_tags :
    elemDecode .cp16 [0xFF, 0xFF] = .ok (.cp16 { ms := 65535 }) ∧
    elemEncode (.cp16 { ms := 59999 }) = .ok [0x5F, 0xEA] ∧
    elemDecode .cp24 [0xFF, 0xFF, 0xFF] = .ok (.cp24 { ms := 65535, min := 63, iv := true }) ∧
    elemEncode (.cp24 { ms := 0, min := 64, iv := false }) = .error (fieldRange .cp24 .min) ∧
    elemDecode .cp56 [0x10, 0x27, 0x05, 0x8C, 0x6F, 0x0B, 0x18] = .ok (.cp56 t56) ∧
    elemDecode .cp56 [0x00, 0x00, 0x00, 0x18, 0x00, 0x00, 0x00] =
      .ok (.cp56 { ms := 0, min := 0, iv := false, hour := 24, su := false, day := 0, dow := 0, month := 0, year := 0 }) ∧
    elemEncode (.cp56 { ms := 0, min := 0, iv := false, hour := 0, su := false, day := 1, dow := 0, month := 1, year := 0 }) =
      .ok [0x00, 0x00, 0x00, 0x00, 0x01, 0x01, 0x00] ∧
    elemDecode .cp56 [0xFF, 0xFF, 0xFF, 0xFF, 0xFF, 0xFF, 0xFF] =
      .ok (.cp56 { ms := 65535, min := 63, iv := true, hour := 31, su := true, day := 31, dow := 7, month := 15, year := 127 }) ∧
    elemEncode (.cp56 { ms := 65535, min := 63, iv := true, hour := 31, su := true, day := 31, dow := 7, month := 15, year := 127 }) =
      .ok [0xFF, 0xFF, 0xBF, 0x9F, 0xFF, 0x0F, 0x7F] := by
  decide +kernel

/-- V55 to V58. -/
theorem test_type_dispatch_errors :
    result (.elemDec 22 [0x01]) = [.err (.unsupportedType (.u1 22))] ∧
    result (.elemDec 125 [0x01]) = [.err (.unsupportedType (.u1 125))] ∧
    result (.elemDec 1 [0x01, 0x00]) = mf (.m11 (.type 1) 2) ∧ result (.elemDec 102 []) = [.elem []] := by
  decide +kernel

/-! ### Type dispatch: 95_test_vectors 2.2, one vector per type, both ways -/

/-- 95_test_vectors 2.2, TI 1 M_SP_NA_1. -/
theorem test_mSpNa1_asdu_both_ways :
    bothWays [0x01, 0x01, 0x03, 0x00, 0x01, 0x00, 0x01, 0x00, 0x00, 0x01]
      (oneObject 1 3 [(.siq, .siq { noQ with spi := true })]) := by decide +kernel

/-- 95_test_vectors 2.2, TI 2 M_SP_TA_1. -/
theorem test_mSpTa1_asdu_both_ways :
    bothWays [0x02, 0x01, 0x03, 0x00, 0x01, 0x00, 0x01, 0x00, 0x00, 0x01, 0x10, 0x27, 0x85]
      (oneObject 2 3 [(.siq, .siq { noQ with spi := true }), (.time, .cp24 t24)]) := by decide +kernel

/-- 95_test_vectors 2.2, TI 3 M_DP_NA_1. -/
theorem test_mDpNa1_asdu_both_ways :
    bothWays [0x03, 0x01, 0x03, 0x00, 0x01, 0x00, 0x01, 0x00, 0x00, 0x02]
      (oneObject 3 3 [(.diq, .diq { noQ with dpi := 2 })]) := by decide +kernel

/-- 95_test_vectors 2.2, TI 4 M_DP_TA_1. -/
theorem test_mDpTa1_asdu_both_ways :
    bothWays [0x04, 0x01, 0x03, 0x00, 0x01, 0x00, 0x01, 0x00, 0x00, 0x02, 0x10, 0x27, 0x85]
      (oneObject 4 3 [(.diq, .diq { noQ with dpi := 2 }), (.time, .cp24 t24)]) := by decide +kernel

/-- 95_test_vectors 2.2, TI 5 M_ST_NA_1. -/
theorem test_mStNa1_asdu_both_ways :
    bothWays [0x05, 0x01, 0x03, 0x00, 0x01, 0x00, 0x01, 0x00, 0x00, 0x85, 0x00]
      (oneObject 5 3 [(.vti, .vti { value := 5, t := true }), (.qds, .qds { noQ with ov := false })]) := by decide +kernel

/-- 95_test_vectors 2.2, TI 6 M_ST_TA_1. -/
theorem test_mStTa1_asdu_both_ways :
    bothWays [0x06, 0x01, 0x03, 0x00, 0x01, 0x00, 0x01, 0x00, 0x00, 0x85, 0x00, 0x10, 0x27, 0x85]
      (oneObject 6 3 [(.vti, .vti { value := 5, t := true }), (.qds, .qds { noQ with ov := false }), (.time, .cp24 t24)]) := by decide +kernel

/-- 95_test_vectors 2.2, TI 7 M_BO_NA_1. -/
theorem test_mBoNa1_asdu_both_ways :
    bothWays [0x07, 0x01, 0x03, 0x00, 0x01, 0x00, 0x01, 0x00, 0x00, 0x01, 0x00, 0x00, 0x80, 0x00]
      (oneObject 7 3 [(.bsi, .bsi 0x80000001), (.qds, .qds { noQ with ov := false })]) := by decide +kernel

/-- 95_test_vectors 2.2, TI 8 M_BO_TA_1. -/
theorem test_mBoTa1_asdu_both_ways :
    bothWays [0x08, 0x01, 0x03, 0x00, 0x01, 0x00, 0x01, 0x00, 0x00, 0x01, 0x00, 0x00, 0x80, 0x00, 0x10, 0x27, 0x85]
      (oneObject 8 3 [(.bsi, .bsi 0x80000001), (.qds, .qds { noQ with ov := false }), (.time, .cp24 t24)]) := by decide +kernel

/-- 95_test_vectors 2.2, TI 9 M_ME_NA_1. -/
theorem test_mMeNa1_asdu_both_ways :
    bothWays [0x09, 0x01, 0x03, 0x00, 0x01, 0x00, 0x01, 0x00, 0x00, 0x40, 0x00, 0x00]
      (oneObject 9 3 [(.nva, .nva 16384), (.qds, .qds { noQ with ov := false })]) := by decide +kernel

/-- 95_test_vectors 2.2, TI 10 M_ME_TA_1. -/
theorem test_mMeTa1_asdu_both_ways :
    bothWays [0x0A, 0x01, 0x03, 0x00, 0x01, 0x00, 0x01, 0x00, 0x00, 0x40, 0x00, 0x00, 0x10, 0x27, 0x85]
      (oneObject 10 3 [(.nva, .nva 16384), (.qds, .qds { noQ with ov := false }), (.time, .cp24 t24)]) := by decide +kernel

/-- 95_test_vectors 2.2, TI 11 M_ME_NB_1. -/
theorem test_mMeNb1_asdu_both_ways :
    bothWays [0x0B, 0x01, 0x03, 0x00, 0x01, 0x00, 0x01, 0x00, 0x00, 0x01, 0x2C, 0x00]
      (oneObject 11 3 [(.sva, .sva 300), (.qds, .qds { noQ with ov := false })]) := by decide +kernel

/-- 95_test_vectors 2.2, TI 12 M_ME_TB_1. -/
theorem test_mMeTb1_asdu_both_ways :
    bothWays [0x0C, 0x01, 0x03, 0x00, 0x01, 0x00, 0x01, 0x00, 0x00, 0x01, 0x2C, 0x00, 0x10, 0x27, 0x85]
      (oneObject 12 3 [(.sva, .sva 300), (.qds, .qds { noQ with ov := false }), (.time, .cp24 t24)]) := by decide +kernel

/-- 95_test_vectors 2.2, TI 13 M_ME_NC_1. -/
theorem test_mMeNc1_asdu_both_ways :
    bothWays [0x0D, 0x01, 0x03, 0x00, 0x01, 0x00, 0x01, 0x00, 0x00, 0x00, 0x00, 0x80, 0x3F, 0x00]
      (oneObject 13 3 [(.r32, .r32 0x3F800000), (.qds, .qds { noQ with ov := false })]) := by decide +kernel

/-- 95_test_vectors 2.2, TI 14 M_ME_TC_1. -/
theorem test_mMeTc1_asdu_both_ways :
    bothWays [0x0E, 0x01, 0x03, 0x00, 0x01, 0x00, 0x01, 0x00, 0x00, 0x00, 0x00, 0x80, 0x3F, 0x00, 0x10, 0x27, 0x85]
      (oneObject 14 3 [(.r32, .r32 0x3F800000), (.qds, .qds { noQ with ov := false }), (.time, .cp24 t24)]) := by decide +kernel

/-- 95_test_vectors 2.2, TI 15 M_IT_NA_1. -/
theorem test_mItNa1_asdu_both_ways :
    bothWays [0x0F, 0x01, 0x03, 0x00, 0x01, 0x00, 0x01, 0x00, 0x00, 0xE8, 0x03, 0x00, 0x00, 0xA1]
      (oneObject 15 3 [(.bcr, .bcr { counter := 1000, sq := 1, cy := true, ca := false, iv := true })]) := by decide +kernel

/-- 95_test_vectors 2.2, TI 16 M_IT_TA_1. -/
theorem test_mItTa1_asdu_both_ways :
    bothWays [0x10, 0x01, 0x03, 0x00, 0x01, 0x00, 0x01, 0x00, 0x00, 0xE8, 0x03, 0x00, 0x00, 0xA1, 0x10, 0x27, 0x85]
      (oneObject 16 3 [(.bcr, .bcr { counter := 1000, sq := 1, cy := true, ca := false, iv := true }), (.time, .cp24 t24)]) := by decide +kernel

/-- 95_test_vectors 2.2, TI 17 M_EP_TA_1. -/
theorem test_mEpTa1_asdu_both_ways :
    bothWays [0x11, 0x01, 0x03, 0x00, 0x01, 0x00, 0x01, 0x00, 0x00, 0x0A, 0xE8, 0x03, 0x10, 0x27, 0x85]
      (oneObject 17 3 [(.sep, .sep { noQ with es := 2, ei := true }), (.elapsed, .cp16 { ms := 1000 }), (.time, .cp24 t24)]) := by decide +kernel

/-- 95_test_vectors 2.2, TI 18 M_EP_TB_1. -/
theorem test_mEpTb1_asdu_both_ways :
    bothWays [0x12, 0x01, 0x03, 0x00, 0x01, 0x00, 0x01, 0x00, 0x00, 0x03, 0x00, 0xE8, 0x03, 0x10, 0x27, 0x85]
      (oneObject 18 3 [(.spe, .spe { gs := true, sl1 := true, sl2 := false, sl3 := false, sie := false, srd := false }), (.qdp, .qdp { noQ with ei := false }), (.duration, .cp16 { ms := 1000 }), (.time, .cp24 t24)]) := by decide +kernel

/-- 95_test_vectors 2.2, TI 19 M_EP_TC_1. -/
theorem test_mEpTc1_asdu_both_ways :
    bothWays [0x13, 0x01, 0x03, 0x00, 0x01, 0x00, 0x01, 0x00, 0x00, 0x09, 0x00, 0xE8, 0x03, 0x10, 0x27, 0x85]
      (oneObject 19 3 [(.oci, .oci { gc := true, cl1 := false, cl2 := false, cl3 := true }), (.qdp, .qdp { noQ with ei := false }), (.operating, .cp16 { ms := 1000 }), (.time, .cp24 t24)]) := by decide +kernel

/-- 95_test_vectors 2.2, TI 20 M_PS_NA_1. -/
theorem test_mPsNa1_asdu_both_ways :
    bothWays [0x14, 0x01, 0x03, 0x00, 0x01, 0x00, 0x01, 0x00, 0x00, 0x01, 0x00, 0x01, 0x00, 0x00]
      (oneObject 20 3 [(.scd, .scd { st := 1, cd := 1 }), (.qds, .qds { noQ with ov := false })]) := by decide +kernel

/-- 95_test_vectors 2.2, TI 21 M_ME_ND_1. -/
theorem test_mMeNd1_asdu_both_ways :
    bothWays [0x15, 0x01, 0x03, 0x00, 0x01, 0x00, 0x01, 0x00, 0x00, 0x40, 0x00]
      (oneObject 21 3 [(.nva, .nva 16384)]) := by decide +kernel

/-- 95_test_vectors 2.2, TI 30 M_SP_TB_1. -/
theorem test_mSpTb1_asdu_both_ways :
    bothWays [0x1E, 0x01, 0x03, 0x00, 0x01, 0x00, 0x01, 0x00, 0x00, 0x01, 0x10, 0x27, 0x05, 0x8C, 0x6F, 0x0B, 0x18]
      (oneObject 30 3 [(.siq, .siq { noQ with spi := true }), (.time, .cp56 t56)]) := by decide +kernel

/-- 95_test_vectors 2.2, TI 31 M_DP_TB_1. -/
theorem test_mDpTb1_asdu_both_ways :
    bothWays [0x1F, 0x01, 0x03, 0x00, 0x01, 0x00, 0x01, 0x00, 0x00, 0x02, 0x10, 0x27, 0x05, 0x8C, 0x6F, 0x0B, 0x18]
      (oneObject 31 3 [(.diq, .diq { noQ with dpi := 2 }), (.time, .cp56 t56)]) := by decide +kernel

/-- 95_test_vectors 2.2, TI 32 M_ST_TB_1. -/
theorem test_mStTb1_asdu_both_ways :
    bothWays [0x20, 0x01, 0x03, 0x00, 0x01, 0x00, 0x01, 0x00, 0x00, 0x85, 0x00, 0x10, 0x27, 0x05, 0x8C, 0x6F, 0x0B, 0x18]
      (oneObject 32 3 [(.vti, .vti { value := 5, t := true }), (.qds, .qds { noQ with ov := false }), (.time, .cp56 t56)]) := by decide +kernel

/-- 95_test_vectors 2.2, TI 33 M_BO_TB_1. -/
theorem test_mBoTb1_asdu_both_ways :
    bothWays [0x21, 0x01, 0x03, 0x00, 0x01, 0x00, 0x01, 0x00, 0x00, 0x01, 0x00, 0x00, 0x80, 0x00, 0x10, 0x27, 0x05, 0x8C, 0x6F, 0x0B, 0x18]
      (oneObject 33 3 [(.bsi, .bsi 0x80000001), (.qds, .qds { noQ with ov := false }), (.time, .cp56 t56)]) := by decide +kernel

/-- 95_test_vectors 2.2, TI 34 M_ME_TD_1. -/
theorem test_mMeTd1_asdu_both_ways :
    bothWays [0x22, 0x01, 0x03, 0x00, 0x01, 0x00, 0x01, 0x00, 0x00, 0x40, 0x00, 0x00, 0x10, 0x27, 0x05, 0x8C, 0x6F, 0x0B, 0x18]
      (oneObject 34 3 [(.nva, .nva 16384), (.qds, .qds { noQ with ov := false }), (.time, .cp56 t56)]) := by decide +kernel

/-- 95_test_vectors 2.2, TI 35 M_ME_TE_1. -/
theorem test_mMeTe1_asdu_both_ways :
    bothWays [0x23, 0x01, 0x03, 0x00, 0x01, 0x00, 0x01, 0x00, 0x00, 0x01, 0x2C, 0x00, 0x10, 0x27, 0x05, 0x8C, 0x6F, 0x0B, 0x18]
      (oneObject 35 3 [(.sva, .sva 300), (.qds, .qds { noQ with ov := false }), (.time, .cp56 t56)]) := by decide +kernel

/-- 95_test_vectors 2.2, TI 36 M_ME_TF_1. -/
theorem test_mMeTf1_asdu_both_ways :
    bothWays [0x24, 0x01, 0x03, 0x00, 0x01, 0x00, 0x01, 0x00, 0x00, 0x00, 0x00, 0x80, 0x3F, 0x00, 0x10, 0x27, 0x05, 0x8C, 0x6F, 0x0B, 0x18]
      (oneObject 36 3 [(.r32, .r32 0x3F800000), (.qds, .qds { noQ with ov := false }), (.time, .cp56 t56)]) := by decide +kernel

/-- 95_test_vectors 2.2, TI 37 M_IT_TB_1. -/
theorem test_mItTb1_asdu_both_ways :
    bothWays [0x25, 0x01, 0x03, 0x00, 0x01, 0x00, 0x01, 0x00, 0x00, 0xE8, 0x03, 0x00, 0x00, 0xA1, 0x10, 0x27, 0x05, 0x8C, 0x6F, 0x0B, 0x18]
      (oneObject 37 3 [(.bcr, .bcr { counter := 1000, sq := 1, cy := true, ca := false, iv := true }), (.time, .cp56 t56)]) := by decide +kernel

/-- 95_test_vectors 2.2, TI 38 M_EP_TD_1. -/
theorem test_mEpTd1_asdu_both_ways :
    bothWays [0x26, 0x01, 0x03, 0x00, 0x01, 0x00, 0x01, 0x00, 0x00, 0x0A, 0xE8, 0x03, 0x10, 0x27, 0x05, 0x8C, 0x6F, 0x0B, 0x18]
      (oneObject 38 3 [(.sep, .sep { noQ with es := 2, ei := true }), (.elapsed, .cp16 { ms := 1000 }), (.time, .cp56 t56)]) := by decide +kernel

/-- 95_test_vectors 2.2, TI 39 M_EP_TE_1. -/
theorem test_mEpTe1_asdu_both_ways :
    bothWays [0x27, 0x01, 0x03, 0x00, 0x01, 0x00, 0x01, 0x00, 0x00, 0x03, 0x00, 0xE8, 0x03, 0x10, 0x27, 0x05, 0x8C, 0x6F, 0x0B, 0x18]
      (oneObject 39 3 [(.spe, .spe { gs := true, sl1 := true, sl2 := false, sl3 := false, sie := false, srd := false }), (.qdp, .qdp { noQ with ei := false }), (.duration, .cp16 { ms := 1000 }), (.time, .cp56 t56)]) := by decide +kernel

/-- 95_test_vectors 2.2, TI 40 M_EP_TF_1. -/
theorem test_mEpTf1_asdu_both_ways :
    bothWays [0x28, 0x01, 0x03, 0x00, 0x01, 0x00, 0x01, 0x00, 0x00, 0x09, 0x00, 0xE8, 0x03, 0x10, 0x27, 0x05, 0x8C, 0x6F, 0x0B, 0x18]
      (oneObject 40 3 [(.oci, .oci { gc := true, cl1 := false, cl2 := false, cl3 := true }), (.qdp, .qdp { noQ with ei := false }), (.operating, .cp16 { ms := 1000 }), (.time, .cp56 t56)]) := by decide +kernel

/-- 95_test_vectors 2.2, TI 45 C_SC_NA_1. -/
theorem test_cScNa1_asdu_both_ways :
    bothWays [0x2D, 0x01, 0x06, 0x00, 0x01, 0x00, 0x01, 0x00, 0x00, 0x81]
      (oneObject 45 6 [(.sco, .sco { scs := true, qu := 0, se := true })]) := by decide +kernel

/-- 95_test_vectors 2.2, TI 46 C_DC_NA_1. -/
theorem test_cDcNa1_asdu_both_ways :
    bothWays [0x2E, 0x01, 0x06, 0x00, 0x01, 0x00, 0x01, 0x00, 0x00, 0x82]
      (oneObject 46 6 [(.dco, .dco { dcs := 2, qu := 0, se := true })]) := by decide +kernel

/-- 95_test_vectors 2.2, TI 47 C_RC_NA_1. -/
theorem test_cRcNa1_asdu_both_ways :
    bothWays [0x2F, 0x01, 0x06, 0x00, 0x01, 0x00, 0x01, 0x00, 0x00, 0x0A]
      (oneObject 47 6 [(.rco, .rco { rcs := 2, qu := 2, se := false })]) := by decide +kernel

/-- 95_test_vectors 2.2, TI 48 C_SE_NA_1. -/
theorem test_cSeNa1_asdu_both_ways :
    bothWays [0x30, 0x01, 0x06, 0x00, 0x01, 0x00, 0x01, 0x00, 0x00, 0x40, 0x00, 0x80]
      (oneObject 48 6 [(.nva, .nva 16384), (.qos, .qos { ql := 0, se := true })]) := by decide +kernel

/-- 95_test_vectors 2.2, TI 49 C_SE_NB_1. -/
theorem test_cSeNb1_asdu_both_ways :
    bothWays [0x31, 0x01, 0x06, 0x00, 0x01, 0x00, 0x01, 0x00, 0x00, 0x01, 0x2C, 0x80]
      (oneObject 49 6 [(.sva, .sva 300), (.qos, .qos { ql := 0, se := true })]) := by decide +kernel

/-- 95_test_vectors 2.2, TI 50 C_SE_NC_1. -/
theorem test_cSeNc1_asdu_both_ways :
    bothWays [0x32, 0x01, 0x06, 0x00, 0x01, 0x00, 0x01, 0x00, 0x00, 0x00, 0x00, 0x80, 0x3F, 0x80]
      (oneObject 50 6 [(.r32, .r32 0x3F800000), (.qos, .qos { ql := 0, se := true })]) := by decide +kernel

/-- 95_test_vectors 2.2, TI 51 C_BO_NA_1. -/
theorem test_cBoNa1_asdu_both_ways :
    bothWays [0x33, 0x01, 0x06, 0x00, 0x01, 0x00, 0x01, 0x00, 0x00, 0x01, 0x00, 0x00, 0x80]
      (oneObject 51 6 [(.bsi, .bsi 0x80000001)]) := by decide +kernel

/-- 95_test_vectors 2.2, TI 58 C_SC_TA_1. -/
theorem test_cScTa1_asdu_both_ways :
    bothWays [0x3A, 0x01, 0x06, 0x00, 0x01, 0x00, 0x01, 0x00, 0x00, 0x81, 0x10, 0x27, 0x05, 0x8C, 0x6F, 0x0B, 0x18]
      (oneObject 58 6 [(.sco, .sco { scs := true, qu := 0, se := true }), (.time, .cp56 t56)]) := by decide +kernel

/-- 95_test_vectors 2.2, TI 59 C_DC_TA_1. -/
theorem test_cDcTa1_asdu_both_ways :
    bothWays [0x3B, 0x01, 0x06, 0x00, 0x01, 0x00, 0x01, 0x00, 0x00, 0x82, 0x10, 0x27, 0x05, 0x8C, 0x6F, 0x0B, 0x18]
      (oneObject 59 6 [(.dco, .dco { dcs := 2, qu := 0, se := true }), (.time, .cp56 t56)]) := by decide +kernel

/-- 95_test_vectors 2.2, TI 60 C_RC_TA_1. -/
theorem test_cRcTa1_asdu_both_ways :
    bothWays [0x3C, 0x01, 0x06, 0x00, 0x01, 0x00, 0x01, 0x00, 0x00, 0x0A, 0x10, 0x27, 0x05, 0x8C, 0x6F, 0x0B, 0x18]
      (oneObject 60 6 [(.rco, .rco { rcs := 2, qu := 2, se := false }), (.time, .cp56 t56)]) := by decide +kernel

/-- 95_test_vectors 2.2, TI 61 C_SE_TA_1. -/
theorem test_cSeTa1_asdu_both_ways :
    bothWays [0x3D, 0x01, 0x06, 0x00, 0x01, 0x00, 0x01, 0x00, 0x00, 0x40, 0x00, 0x80, 0x10, 0x27, 0x05, 0x8C, 0x6F, 0x0B, 0x18]
      (oneObject 61 6 [(.nva, .nva 16384), (.qos, .qos { ql := 0, se := true }), (.time, .cp56 t56)]) := by decide +kernel

/-- 95_test_vectors 2.2, TI 62 C_SE_TB_1. -/
theorem test_cSeTb1_asdu_both_ways :
    bothWays [0x3E, 0x01, 0x06, 0x00, 0x01, 0x00, 0x01, 0x00, 0x00, 0x01, 0x2C, 0x80, 0x10, 0x27, 0x05, 0x8C, 0x6F, 0x0B, 0x18]
      (oneObject 62 6 [(.sva, .sva 300), (.qos, .qos { ql := 0, se := true }), (.time, .cp56 t56)]) := by decide +kernel

/-- 95_test_vectors 2.2, TI 63 C_SE_TC_1. -/
theorem test_cSeTc1_asdu_both_ways :
    bothWays [0x3F, 0x01, 0x06, 0x00, 0x01, 0x00, 0x01, 0x00, 0x00, 0x00, 0x00, 0x80, 0x3F, 0x80, 0x10, 0x27, 0x05, 0x8C, 0x6F, 0x0B, 0x18]
      (oneObject 63 6 [(.r32, .r32 0x3F800000), (.qos, .qos { ql := 0, se := true }), (.time, .cp56 t56)]) := by decide +kernel

/-- 95_test_vectors 2.2, TI 64 C_BO_TA_1. -/
theorem test_cBoTa1_asdu_both_ways :
    bothWays [0x40, 0x01, 0x06, 0x00, 0x01, 0x00, 0x01, 0x00, 0x00, 0x01, 0x00, 0x00, 0x80, 0x10, 0x27, 0x05, 0x8C, 0x6F, 0x0B, 0x18]
      (oneObject 64 6 [(.bsi, .bsi 0x80000001), (.time, .cp56 t56)]) := by decide +kernel

/-- 95_test_vectors 2.2, TI 70 M_EI_NA_1. -/
theorem test_mEiNa1_asdu_both_ways :
    bothWays [0x46, 0x01, 0x03, 0x00, 0x01, 0x00, 0x01, 0x00, 0x00, 0x82]
      (oneObject 70 3 [(.coi, .coi { cause := 2, bs1 := true })]) := by decide +kernel

/-- 95_test_vectors 2.2, TI 100 C_IC_NA_1. -/
theorem test_cIcNa1_asdu_both_ways :
    bothWays [0x64, 0x01, 0x06, 0x00, 0x01, 0x00, 0x01, 0x00, 0x00, 0x14]
      (oneObject 100 6 [(.qoi, .qoi 20)]) := by decide +kernel

/-- 95_test_vectors 2.2, TI 101 C_CI_NA_1. -/
theorem test_cCiNa1_asdu_both_ways :
    bothWays [0x65, 0x01, 0x06, 0x00, 0x01, 0x00, 0x01, 0x00, 0x00, 0x45]
      (oneObject 101 6 [(.qcc, .qcc { rqt := 5, frz := 1 })]) := by decide +kernel

/-- 95_test_vectors 2.2, TI 102 C_RD_NA_1. -/
theorem test_cRdNa1_asdu_both_ways :
    bothWays [0x66, 0x01, 0x06, 0x00, 0x01, 0x00, 0x01, 0x00, 0x00]
      (oneObject 102 6 []) := by decide +kernel

/-- 95_test_vectors 2.2, TI 103 C_CS_NA_1. -/
theorem test_cCsNa1_asdu_both_ways :
    bothWays [0x67, 0x01, 0x06, 0x00, 0x01, 0x00, 0x01, 0x00, 0x00, 0x10, 0x27, 0x05, 0x8C, 0x6F, 0x0B, 0x18]
      (oneObject 103 6 [(.time, .cp56 t56)]) := by decide +kernel

/-- 95_test_vectors 2.2, TI 104 C_TS_NA_1. -/
theorem test_cTsNa1_asdu_both_ways :
    bothWays [0x68, 0x01, 0x06, 0x00, 0x01, 0x00, 0x01, 0x00, 0x00, 0xAA, 0x55]
      (oneObject 104 6 [(.fbp, .fbp 0x55AA)]) := by decide +kernel

/-- 95_test_vectors 2.2, TI 105 C_RP_NA_1. -/
theorem test_cRpNa1_asdu_both_ways :
    bothWays [0x69, 0x01, 0x06, 0x00, 0x01, 0x00, 0x01, 0x00, 0x00, 0x01]
      (oneObject 105 6 [(.qrp, .qrp 1)]) := by decide +kernel

/-- 95_test_vectors 2.2, TI 106 C_CD_NA_1. -/
theorem test_cCdNa1_asdu_both_ways :
    bothWays [0x6A, 0x01, 0x06, 0x00, 0x01, 0x00, 0x01, 0x00, 0x00, 0xE8, 0x03]
      (oneObject 106 6 [(.delay, .cp16 { ms := 1000 })]) := by decide +kernel

/-- 95_test_vectors 2.2, TI 107 C_TS_TA_1. -/
theorem test_cTsTa1_asdu_both_ways :
    bothWays [0x6B, 0x01, 0x06, 0x00, 0x01, 0x00, 0x01, 0x00, 0x00, 0x34, 0x12, 0x10, 0x27, 0x05, 0x8C, 0x6F, 0x0B, 0x18]
      (oneObject 107 6 [(.tsc, .tsc 0x1234), (.time, .cp56 t56)]) := by decide +kernel

/-- 95_test_vectors 2.2, TI 110 P_ME_NA_1. -/
theorem test_pMeNa1_asdu_both_ways :
    bothWays [0x6E, 0x01, 0x06, 0x00, 0x01, 0x00, 0x01, 0x00, 0x00, 0x40, 0x00, 0x01]
      (oneObject 110 6 [(.nva, .nva 16384), (.qpm, .qpm { kpa := 1, lpc := false, pop := false })]) := by decide +kernel

/-- 95_test_vectors 2.2, TI 111 P_ME_NB_1. -/
theorem test_pMeNb1_asdu_both_ways :
    bothWays [0x6F, 0x01, 0x06, 0x00, 0x01, 0x00, 0x01, 0x00, 0x00, 0x01, 0x2C, 0x01]
      (oneObject 111 6 [(.sva, .sva 300), (.qpm, .qpm { kpa := 1, lpc := false, pop := false })]) := by decide +kernel

/-- 95_test_vectors 2.2, TI 112 P_ME_NC_1. -/
theorem test_pMeNc1_asdu_both_ways :
    bothWays [0x70, 0x01, 0x06, 0x00, 0x01, 0x00, 0x01, 0x00, 0x00, 0x00, 0x00, 0x80, 0x3F, 0x01]
      (oneObject 112 6 [(.r32, .r32 0x3F800000), (.qpm, .qpm { kpa := 1, lpc := false, pop := false })]) := by decide +kernel

/-- 95_test_vectors 2.2, TI 113 P_AC_NA_1. -/
theorem test_pAcNa1_asdu_both_ways :
    bothWays [0x71, 0x01, 0x06, 0x00, 0x01, 0x00, 0x01, 0x00, 0x00, 0x03]
      (oneObject 113 6 [(.qpa, .qpa 3)]) := by decide +kernel

/-- 95_test_vectors 2.2, TI 120 F_FR_NA_1. -/
theorem test_fFrNa1_asdu_both_ways :
    bothWays [0x78, 0x01, 0x0D, 0x00, 0x01, 0x00, 0x01, 0x00, 0x00, 0x01, 0x00, 0x00, 0x01, 0x00, 0x80]
      (oneObject 120 13 [(.nof, .nof 1), (.lof, .lof 256), (.frq, .frq { code := 0, neg := true })]) := by decide +kernel

/-- 95_test_vectors 2.2, TI 121 F_SR_NA_1. -/
theorem test_fSrNa1_asdu_both_ways :
    bothWays [0x79, 0x01, 0x0D, 0x00, 0x01, 0x00, 0x01, 0x00, 0x00, 0x01, 0x00, 0x02, 0x00, 0x01, 0x00, 0x00]
      (oneObject 121 13 [(.nof, .nof 1), (.nos, .nos 2), (.lof, .lof 256), (.srq, .srq { code := 0, notReady := false })]) := by decide +kernel

/-- 95_test_vectors 2.2, TI 122 F_SC_NA_1. -/
theorem test_fScNa1_asdu_both_ways :
    bothWays [0x7A, 0x01, 0x0D, 0x00, 0x01, 0x00, 0x01, 0x00, 0x00, 0x01, 0x00, 0x02, 0x21]
      (oneObject 122 13 [(.nof, .nof 1), (.nos, .nos 2), (.scq, .scq { code := 1, err := 2 })]) := by decide +kernel

/-- 95_test_vectors 2.2, TI 123 F_LS_NA_1. -/
theorem test_fLsNa1_asdu_both_ways :
    bothWays [0x7B, 0x01, 0x0D, 0x00, 0x01, 0x00, 0x01, 0x00, 0x00, 0x01, 0x00, 0x02, 0x03, 0x5A]
      (oneObject 123 13 [(.nof, .nof 1), (.nos, .nos 2), (.lsq, .lsq 3), (.chs, .chs 90)]) := by decide +kernel

/-- 95_test_vectors 2.2, TI 124 F_AF_NA_1. -/
theorem test_fAfNa1_asdu_both_ways :
    bothWays [0x7C, 0x01, 0x0D, 0x00, 0x01, 0x00, 0x01, 0x00, 0x00, 0x01, 0x00, 0x02, 0x14]
      (oneObject 124 13 [(.nof, .nof 1), (.nos, .nos 2), (.afq, .afq { code := 4, err := 1 })]) := by decide +kernel

/-- 95_test_vectors 2.2, TI 126 F_DR_TA_1. -/
theorem test_fDrTa1_asdu_both_ways :
    bothWays [0x7E, 0x01, 0x0D, 0x00, 0x01, 0x00, 0x01, 0x00, 0x00, 0x01, 0x00, 0x00, 0x01, 0x00, 0x20, 0x10, 0x27, 0x05, 0x8C, 0x6F, 0x0B, 0x18]
      (oneObject 126 13 [(.nof, .nof 1), (.lof, .lof 256), (.sof, .sof { status := 0, lfd := true, forDir := false, fa := false }), (.time, .cp56 t56)]) := by decide +kernel

/-- 95_test_vectors 2.2, TI 127 F_SC_NB_1. -/
theorem test_fScNb1_asdu_both_ways :
    bothWays [0x7F, 0x01, 0x0D, 0x00, 0x01, 0x00, 0x01, 0x00, 0x00, 0x01, 0x00, 0x10, 0x27, 0x05, 0x8C, 0x6F, 0x0B, 0x18, 0x10, 0x27, 0x05, 0x8C, 0x6F, 0x0B, 0x18]
      (oneObject 127 13 [(.nof, .nof 1), (.start, .cp56 t56), (.stop, .cp56 t56)]) := by decide +kernel

/-! ### ASDU codec: 95_test_vectors 2.3 -/

/-- A1 to A9. -/
theorem test_asdu_decode_errors :
    result (.asduDec [1, 1, 3, 0, 1]) = mf .m7 ∧ result (.asduDec [1, 1, 3, 0, 1, 0]) = mf .m9 ∧
    result (.asduDec [1, 0, 3, 0, 1, 0]) = mf .m8 ∧
    result (.asduDec [1, 3, 3, 0, 1, 0, 0x0A, 0, 0, 1, 5, 0, 0]) = mf .m9 ∧
    result (.asduDec [1, 1, 3, 0, 1, 0, 0x0A, 0]) = mf .m9 ∧
    result (.asduDec [1, 0x82, 3, 0, 1, 0, 0x0A, 0, 0, 1, 1, 1]) = mf .m9 ∧
    result (.asduDec [0x16, 1, 3, 0, 1, 0, 0x0A, 0, 0, 1]) = [.err (.unsupportedType (.u1 22))] ∧
    result (.asduDec [9, 1, 3, 0, 1, 0, 0x0A, 0, 0, 1]) = mf (.m10 9 1) ∧
    result (.asduDec [0x16, 0, 3, 0, 1, 0]) = mf .m8 := by
  decide +kernel

/-- E4 and A15: the sequence and set layouts, duplicates kept, wire order kept. -/
theorem test_asdu_layouts :
    result (.asduDec [1, 0x83, 0x14, 0, 1, 0, 0x64, 0, 0, 1, 0, 1]) =
      [.asdu (spAsdu true 3 20 (some 0) [(100, spOn), (101, spOff), (102, spOn)])] ∧
    result (.asduDec [1, 3, 3, 0, 1, 0, 0x0A, 0, 0, 1, 5, 0, 0, 0, 7, 0, 0, 0x81]) =
      [.asdu (spAsdu false 3 3 (some 0)
        [(10, spOn), (5, spOff), (7, [(.siq, .siq { noQ with iv := true, spi := true })])])] ∧
    result (.asduDec [1, 3, 3, 0, 1, 0, 0x0A, 0, 0, 1, 0x0A, 0, 0, 0, 0x0A, 0, 0, 1]) =
      [.asdu (spAsdu false 3 3 (some 0) [(10, spOn), (10, spOff), (10, spOn)])] := by
  decide +kernel

/-- A12 to A14: the cause bits, and the narrow profile with an address past its width. -/
theorem test_asdu_header_and_narrow_profile :
    result (.asduDec [1, 1, 0xC7, 3, 1, 0, 0x0A, 0, 0, 1]) =
      [.asdu { a16 with cot := { cause := 7, pn := true, test := true, oa := some 3 } }] ∧
    resultIn (stateOf c111 [.asduDec [1, 0x82, 3, 1, 0xFF, 1, 1]]) =
      [.asdu (spAsdu true 2 3 none [(255, spOn), (256, spOn)])] ∧
    resultIn (stateOf c111 [.asduDec [1, 1, 3, 1, 5, 1]]) = [.asdu (spAsdu false 1 3 none [(5, spOn)])] := by
  decide +kernel

/-- A16 to A30. -/
theorem test_asdu_encode :
    result (.asduEnc a16) = [.bytes [1, 1, 3, 0, 1, 0, 0x0A, 0, 0, 1]] ∧
    result (.asduEnc { a16 with ti := 22 }) = [.err (.unsupportedType (.u1 22))] ∧
    result (.asduEnc { a16 with n := 0, objs := [] }) = [.err (.encodeError (.x2 0 0))] ∧
    result (.asduEnc { a16 with n := 2 }) = [.err (.encodeError (.x2 2 1))] ∧
    result (.asduEnc { a16 with cot := { a16.cot with cause := 64 } }) = x1 .cause ∧
    result (.asduEnc { a16 with cot := { a16.cot with oa := none } }) = x1 .oa ∧
    result (.asduEnc { a16 with ca := 65536 }) = x1 .ca ∧
    result (.asduEnc (spAsdu false 1 3 (some 0) [(16777216, spOn)])) = x1 .ioa ∧
    result (.asduEnc (spAsdu true 2 3 (some 0) [(5, spOn), (7, spOff)])) = [.err (.encodeError (.x3 1))] ∧
    result (.asduEnc (spAsdu true 2 3 (some 0) [(5, spOn), (6, spOff)])) =
      [.bytes [1, 0x82, 3, 0, 1, 0, 5, 0, 0, 1, 0]] ∧
    resultIn (stateOf c111 [.asduEnc (spAsdu true 2 3 none [(255, spOn), (256, spOn)])]) =
      [.bytes [1, 0x82, 3, 1, 0xFF, 1, 1]] ∧
    result (.asduEnc (oneObject 3 3 [(.diq, .diq { noQ with dpi := 4 })])) = x1 (.element .diq .dpi) ∧
    result (.asduEnc g) = [.bytes gBytes] ∧
    result (.asduEnc { a16 with ti := 22, n := 0 }) = [.err (.unsupportedType (.u1 22))] := by
  decide +kernel

/-! ### APCI codec: 95_test_vectors 2.4 -/

/-- P1 to P13. -/
theorem test_apci_decode :
    result (.apciDec [0, 0, 0, 0]) = [.apci (.i 0 0)] ∧ result (.apciDec [2, 0, 4, 0]) = [.apci (.i 1 2)] ∧
    result (.apciDec [0xFE, 0xFF, 0xFE, 0xFF]) = [.apci (.i 32767 32767)] ∧
    result (.apciDec [0, 0, 1, 0]) = [.apci (.i 0 0)] ∧ result (.apciDec [1, 0, 0x0A, 0]) = [.apci (.s 5)] ∧
    result (.apciDec [0xFD, 0x7F, 0x0A, 0]) = [.apci (.s 5)] ∧ result (.apciDec [1, 0, 1, 0]) = [.apci (.s 0)] ∧
    result (.apciDec [0x43, 0x12, 0x34, 0x56]) = [.apci (.u .testfrAct)] ∧
    result (.apciDec [3, 0, 0, 0]) = [.err (.unsupportedType (.u2 3))] ∧ result (.apciDec [0, 0, 0]) = mf .m5 := by
  decide +kernel

/-- P14 to P19. -/
theorem test_apci_encode :
    result (.apciEnc (.i 3 129)) = [.bytes [6, 0, 2, 1]] ∧
    result (.apciEnc (.i 32767 32767)) = [.bytes [0xFE, 0xFF, 0xFE, 0xFF]] ∧ result (.apciEnc (.i 32768 0)) = x1 .ns ∧
    result (.apciEnc (.s 5)) = [.bytes [1, 0, 0x0A, 0]] ∧ result (.apciEnc (.s 32767)) = [.bytes [1, 0, 0xFE, 0xFF]] ∧
    result (.apciEnc (.u .stopdtAct)) = [.bytes [0x13, 0, 0, 0]] := by
  decide +kernel

/-! ### Framer: 95_test_vectors 2.5 -/

/-- F1 to F7. -/
theorem test_split :
    result (.split []) = [.frames [] .ok] ∧ result (.split [0x68]) = [.frames [] (.error (.m2 0))] ∧
    result (.split [0x68, 4, 1, 0]) = [.frames [] (.error (.m2 0))] ∧
    result (.split [0x69, 4, 7, 0, 0, 0]) = [.frames [] (.error (.m1 0))] ∧
    result (.split [0x68, 4, 7, 0, 0, 0, 0]) = [.frames [[0x68, 4, 7, 0, 0, 0]] (.error (.m1 6))] ∧
    result (.split [0x68, 4, 7, 0, 0, 0, 0x68, 4, 1]) = [.frames [[0x68, 4, 7, 0, 0, 0]] (.error (.m2 6))] ∧
    result (.split [0x68, 0, 0x68, 4, 0x43, 0, 0, 0]) = [.frames [[0x68, 0], [0x68, 4, 0x43, 0, 0, 0]] .ok] := by
  decide +kernel

/-- F9 and F10: the tail of F8 is completed, then kept. -/
theorem test_feed_retains_tail :
    resultIn { stateOf profile104 [.feed [0, 0, 0, 0x68]] with rxbuf := [0x68, 4, 7] } =
      [.frames [[0x68, 4, 7, 0, 0, 0]] (.incomplete 1)] ∧
    framerAfter { stateOf profile104 [.feed [0, 0, 0, 0x68]] with rxbuf := [0x68, 4, 7] } = some ([0x68], .run, none) ∧
    resultIn { stateOf profile104 [.feed []] with rxbuf := [0x68] } = [.frames [] (.incomplete 1)] := by
  decide +kernel

/-- F13 and F14: a bad delimiter stops the framer, and a stopped framer refuses. -/
theorem test_feed_stops :
    resultIn (stateOf profile104 [.feed [0x68, 4, 7, 0, 0, 0, 0xAA, 0x68]]) =
      [.frames [[0x68, 4, 7, 0, 0, 0]] (.error (.m1 6))] ∧
    framerAfter (stateOf profile104 [.feed [0x68, 4, 7, 0, 0, 0, 0xAA, 0x68]]) = some ([], .stopped, some (.m1 6)) ∧
    resultIn { stateOf profile104 [.feed [0x68, 4, 7, 0, 0, 0]] with framer := .stopped, ferr := some (.m1 6) } =
      [.err (.framerStopped (some (.m1 6)))] := by
  decide +kernel

/-- F15 and F16: the longest tail is 256 bytes, and the 257-byte frame is split out. -/
theorem test_feed_longest_tail :
    framerAfter (stateOf profile104 [.feed (0x68 :: 0xFF :: List.replicate 254 0)]) =
      some (0x68 :: 0xFF :: List.replicate 254 0, .run, none) ∧
    resultIn { stateOf profile104 [.feed [0]] with rxbuf := 0x68 :: 0xFF :: List.replicate 254 0 } =
      [.frames [0x68 :: 0xFF :: List.replicate 255 0] .ok] ∧
    result (.frameDec (0x68 :: 0xFF :: List.replicate 255 0)) = mf (.m4 255) := by
  decide +kernel

/-- F17 to F29. -/
theorem test_frame_decode :
    result (.frameDec [0x68, 4, 1, 0, 0x0A, 0]) = [.apdu { apci := .s 5, asdu := none }] ∧
    result (.frameDec [0x68, 5, 1, 0, 0x0A, 0, 0]) = mf (.m6 5) ∧
    result (.frameDec [0x68, 6, 0x43, 0, 0, 0, 0, 0]) = mf (.m6 6) ∧
    result (.frameDec [0x69, 4, 7, 0, 0, 0]) = mf (.m1 0) ∧ result (.frameDec [0x68, 4, 7, 0, 0]) = mf .m5 ∧
    result (.frameDec [0x68, 0xFE, 0]) = mf .m5 ∧ result (.frameDec [0x68, 0]) = mf (.m3 0) ∧
    result (.frameDec [0x68, 2, 0, 0]) = mf (.m3 2) ∧
    resultIn (stateOf { profile104 with maxLen := 13 } [.frameDec (0x68 :: 0x0E :: 0 :: 0 :: 0 :: 0 :: gBytes)]) =
      mf (.m4 14) ∧
    result (.frameDec [0x68, 4, 3, 0, 0, 0]) = [.err (.unsupportedType (.u2 3))] ∧
    result (.frameDec [0x68, 4, 0, 0, 0, 0]) = mf .m7 ∧ result (.frameDec [0x68, 5, 0, 0, 0, 0, 1]) = mf .m7 ∧
    result (.frameDec (0x68 :: 0x0E :: 0 :: 0 :: 0 :: 0 :: gBytes)) = [.apdu { apci := .i 0 0, asdu := some g }] := by
  decide +kernel

/-- F30 to F34, F37, and E5. -/
theorem test_compose :
    result (.compose { apci := .u .testfrCon, asdu := none }) = [.bytes [0x68, 4, 0x83, 0, 0, 0]] ∧
    result (.compose { apci := .i 0 0, asdu := none }) = [.err (.encodeError .x5)] ∧
    result (.compose { apci := .s 0, asdu := some g }) = [.err (.encodeError .x5)] ∧
    resultIn (stateOf { profile104 with maxLen := 13 } [.compose { apci := .i 0 0, asdu := some g }]) =
      [.err (.encodeError (.x4 14))] ∧
    result (.compose { apci := .i 32768 0, asdu := some g }) = x1 .ns ∧
    result (.frameDec [0x68, 4, 0x0B, 0, 0, 0]) = [.apdu { apci := .u .startdtCon, asdu := none }] := by
  decide +kernel

/-- F35, F36: 60 single points fill a frame of 252 bytes, 61 are too long. -/
theorem test_compose_length_bound :
    (match resultIn (stateOf profile104 [.compose { apci := .i 0 0, asdu := some (spAsdu false 60 3 (some 0)
        ((List.range 60).map fun i => (i, spOff))) }]) with
      | [.bytes f] => f.take 2 == [0x68, 0xFA] && f.length == 252
      | _ => false) = true ∧
    result (.compose { apci := .i 0 0, asdu := some (spAsdu false 61 3 (some 0)
      ((List.range 61).map fun i => (i, spOff))) }) = [.err (.encodeError (.x4 254))] := by
  decide +kernel

/-! ### Link state machine: 95_test_vectors 2.6 -/

/-- K1, K2, K4, K8. -/
theorem test_link_rx_i :
    resultIn (linkState 0 0 0 (.linkRx { apci := .i 0 0, asdu := some g })) = [.verdict (.acceptI g)] ∧
    linkAfter (linkState 0 0 0 (.linkRx { apci := .i 0 0, asdu := some g })) = some (0, 1, 0, .connected) ∧
    resultIn (linkState 0 1 0 (.linkRx { apci := .i 0 0, asdu := some g })) =
      [.err (.sequenceViolation (.s1 0 1 0 0))] ∧
    linkAfter (linkState 0 1 0 (.linkRx { apci := .i 0 0, asdu := some g })) = some (0, 1, 0, .closed) ∧
    resultIn (linkState 2 5 0 (.linkRx { apci := .i 5 1, asdu := some g })) =
      [.err (.sequenceViolation (.s1 2 5 1 5))] ∧
    linkAfter (linkState 0 32767 0 (.linkRx { apci := .i 32767 0, asdu := some g })) = some (0, 0, 0, .connected) := by
  decide +kernel

/-- K5, K6, K7. -/
theorem test_link_rx_s_and_u :
    linkAfter (linkState 1 0 0 (.linkRx { apci := .s 1, asdu := none })) = some (1, 1, 1, .connected) ∧
    resultIn (linkState 1 0 0 (.linkRx { apci := .s 0, asdu := none })) = [.err (.sequenceViolation (.s2 1 0))] ∧
    linkAfter (linkState 1 0 0 (.linkRx { apci := .s 0, asdu := none })) = some (1, 0, 0, .closed) ∧
    resultIn (linkState 3 4 3 (.linkRx { apci := .u .testfrAct, asdu := none })) = [.verdict (.control .testfrAct)] ∧
    linkAfter (linkState 3 4 3 (.linkRx { apci := .u .testfrAct, asdu := none })) = some (3, 4, 3, .connected) := by
  decide +kernel

/-- K10 to K12. -/
theorem test_link_tx_i :
    resultIn (linkState 1 0 0 (.linkTxI g)) = [.bytes (0x68 :: 0x0E :: 2 :: 0 :: 0 :: 0 :: gBytes)] ∧
    linkAfter (linkState 1 0 0 (.linkTxI g)) = some (2, 0, 0, .connected) ∧
    resultIn (linkState 32767 0 0 (.linkTxI g)) = [.bytes (0x68 :: 0x0E :: 0xFE :: 0xFF :: 0 :: 0 :: gBytes)] ∧
    linkAfter (linkState 32767 0 0 (.linkTxI g)) = some (0, 0, 0, .connected) ∧
    linkAfter (linkState 5 0 0 (.linkTxI { g with ti := 22 })) = some (5, 0, 0, .connected) := by
  decide +kernel

/-- K13 to K16. -/
theorem test_link_tx_s_and_u :
    resultIn (linkState 3 5 0 .linkTxS) = [.bytes [0x68, 4, 1, 0, 0x0A, 0]] ∧
    linkAfter (linkState 3 5 0 .linkTxS) = some (4, 5, 0, .connected) ∧
    linkAfter { linkState 3 5 0 .linkTxS with cfg := { profile104 with sTxAdvancesVs := false } } =
      some (3, 5, 0, .connected) ∧
    linkAfter (linkState 32767 0 0 .linkTxS) = some (0, 0, 0, .connected) ∧
    resultIn (linkState 7 2 0 (.linkTxU .startdtCon)) = [.bytes [0x68, 4, 0x0B, 0, 0, 0]] ∧
    linkAfter (linkState 7 2 0 (.linkTxU .startdtCon)) = some (7, 2, 0, .connected) := by
  decide +kernel

/-- K18 to K21. -/
theorem test_link_closed_and_framer_stop :
    resultIn { linkState 4 4 4 .linkTxS with link := .closed } = [.err .connectionClosed] ∧
    linkAfter { linkState 4 4 4 .linkTxS with link := .closed } = some (4, 4, 4, .closed) ∧
    linkAfter (linkState 4 4 4 .transportClosed) = some (4, 4, 4, .closed) ∧
    linkAfter { linkState 0 0 0 (.linkRx { apci := .i 0 0, asdu := some g }) with
      framer := .stopped, ferr := some (.m1 0) } = some (0, 1, 0, .connected) := by
  decide +kernel

/-- Z1: RESET from a closed, stopped instance. -/
theorem test_reset_from_closed_and_stopped :
    (match step { stateOf c111 [.reset profile104] with
        vs := 5, vr := 7, lastAck := 5, link := .closed, rxbuf := [0x68, 4], framer := .stopped, ferr := some (.m1 3) } with
      | .next t => decide (t = { State.reset with resps := [.done] })
      | _ => false) = true := by
  decide +kernel

/-- The single command of Program 3. -/
def p3Command : Asdu :=
  { ti := 45, sq := false, n := 1, cot := { cause := 6, pn := false, test := false, oa := none }, ca := 5,
    objs := [{ ioa := 16, val := [(.sco, .sco { scs := true, qu := 0, se := true })] }] }

/-- The operations of Program 3, steps 1 to 5. -/
def p3Requests : List Request :=
  [.reset { cotW := 1, caW := 1, ioaW := 2, maxLen := 253, sTxAdvancesVs := false }, .linkTxI p3Command,
    .frameDec [0x68, 4, 1, 0, 2, 0], .linkRx { apci := .s 1, asdu := none }, .linkRx { apci := .i 0 1, asdu := some g }]

/-- Program 3, steps 1 to 5: a received S-frame advances V(R), so the confirmation with ns 0 closes the link. -/
theorem test_program3_violation :
    (match Host.Core.run core 5 (stateOf c111 p3Requests) with
      | .next t => decide (t.resps = [.done, .bytes [0x68, 0x0B, 0, 0, 0, 0, 0x2D, 1, 6, 5, 0x10, 0, 0x81],
          .apdu { apci := .s 1, asdu := none }, .verdict .acceptS, .err (.sequenceViolation (.s1 1 1 1 0))]) &&
          decide ((t.vs, t.vr, t.lastAck, t.link) = (1, 1, 1, .closed))
      | _ => false) = true := by
  decide +kernel

/-! ### Witnesses: a state and operands that meet the hypotheses of each obligation, at the boundaries of its clauses -/

/-- Whether an outcome is the next state t. -/
def nextIs (o : Host.Outcome State Fault Refusal) (t : State) : Bool :=
  match o with
  | .next u => decide (u = t)
  | _ => false

theorem eq_of_nextIs {o : Host.Outcome State Fault Refusal} {t : State} (h : nextIs o t = true) : o = .next t := by
  cases o <;> simp_all [nextIs]

/-- Spans that agree at index 0 and nowhere else exist agree everywhere. -/
theorem agree_of_head {m a b : Byte} (h : a &&& ~~~m = b &&& ~~~m) (i : Nat) :
    at' [a] i &&& ~~~at' [m] i = at' [b] i &&& ~~~at' [m] i := by
  cases i with
  | zero => exact h
  | succ i => simp [at']

theorem witness_QualityElementsCodec :
    (DIQ.mk noQ 3).dpi < 4 ∧ 4 ≤ (DIQ.mk noQ 4).dpi ∧ (SEP.mk noQ 3 true).es < 4 ∧ 4 ≤ (SEP.mk noQ 4 true).es ∧
    ([] : Span).length ≠ 1 ∧ ([1, 0] : Span).length ≠ 1 := by decide

theorem witness_StatusElementsCodec :
    -64 ≤ (VTI.mk (-64) true).value ∧ (VTI.mk (-64) true).value ≤ 63 ∧ (VTI.mk (-65) true).value < -64 ∧
    63 < (VTI.mk 64 true).value ∧ 4294967295 < 2 ^ 32 ∧ 2 ^ 32 ≤ 4294967296 ∧
    (SCD.mk 65535 0).st < 2 ^ 16 ∧ (SCD.mk 0 65535).cd < 2 ^ 16 ∧ 2 ^ 16 ≤ (SCD.mk 65536 0).st ∧
    2 ^ 16 ≤ (SCD.mk 0 65536).cd ∧ ([1, 2, 3] : Span).length ≠ 4 ∧ ([] : Span).length ≠ 1 := by decide

theorem witness_ValueElementsCodec :
    ((-32768 : Int) ≤ -32768 ∧ (-32768 : Int) ≤ 32767) ∧ ((-32768 : Int) ≤ 32767 ∧ (32767 : Int) ≤ 32767) ∧
    (-32769 : Int) < -32768 ∧ (32767 : Int) < 32768 ∧ 4294967295 < 2 ^ 32 ∧ 2 ^ 32 ≤ 4294967296 ∧
    (-2 ^ 31 ≤ (BCR.mk (-2 ^ 31) 31 true true true).counter ∧ (BCR.mk (-2 ^ 31) 31 true true true).counter < 2 ^ 31 ∧
      (BCR.mk (-2 ^ 31) 31 true true true).sq < 32) ∧
    2 ^ 31 ≤ (BCR.mk (2 ^ 31) 0 true true true).counter ∧ (BCR.mk (-2 ^ 31 - 1) 0 true true true).counter < -2 ^ 31 ∧
    32 ≤ (BCR.mk 0 32 true true true).sq ∧ ([1] : Span).length ≠ 2 ∧ ([1] : Span).length ≠ 4 ∧
    ([1] : Span).length ≠ 5 := by decide

theorem witness_CommandElementsCodec :
    (SCO.mk true 31 true).qu < 32 ∧ 32 ≤ (SCO.mk true 32 true).qu ∧ (DCO.mk 3 31 true).dcs < 4 ∧
    (DCO.mk 3 31 true).qu < 32 ∧ 4 ≤ (DCO.mk 4 0 true).dcs ∧ 32 ≤ (DCO.mk 0 32 true).qu ∧ (RCO.mk 3 31 true).rcs < 4 ∧
    (RCO.mk 3 31 true).qu < 32 ∧ 4 ≤ (RCO.mk 4 0 true).rcs ∧ 32 ≤ (RCO.mk 0 32 true).qu ∧ (QOS.mk 127 true).ql < 128 ∧
    128 ≤ (QOS.mk 128 true).ql ∧ (QCC.mk 63 3).rqt < 64 ∧ (QCC.mk 63 3).frz < 4 ∧ 64 ≤ (QCC.mk 64 0).rqt ∧
    4 ≤ (QCC.mk 0 4).frz ∧ (QPM.mk 63 true true).kpa < 64 ∧ 64 ≤ (QPM.mk 64 true true).kpa ∧
    (COI.mk 127 true).cause < 128 ∧ 128 ≤ (COI.mk 128 true).cause ∧ ([1, 2] : Span).length ≠ 1 := by decide

theorem witness_NumberElementsCodec :
    255 < 2 ^ 8 ∧ 2 ^ 8 ≤ 256 ∧ 65535 < 2 ^ 16 ∧ 2 ^ 16 ≤ 65536 ∧ 16777215 < 2 ^ 24 ∧ 2 ^ 24 ≤ 16777216 ∧
    ([] : Span).length ≠ 1 ∧ ([1] : Span).length ≠ 2 ∧ ([1, 2] : Span).length ≠ 3 := by decide

theorem witness_FileQualifiersCodec :
    (FRQ.mk 127 true).code < 128 ∧ 128 ≤ (FRQ.mk 128 true).code ∧ (SRQ.mk 127 true).code < 128 ∧
    128 ≤ (SRQ.mk 128 true).code ∧ (SCQ.mk 15 15).code < 16 ∧ (SCQ.mk 15 15).err < 16 ∧ 16 ≤ (SCQ.mk 16 0).code ∧
    16 ≤ (SCQ.mk 0 16).err ∧ (AFQ.mk 15 15).code < 16 ∧ (AFQ.mk 15 15).err < 16 ∧ 16 ≤ (AFQ.mk 16 0).code ∧
    16 ≤ (AFQ.mk 0 16).err ∧ (SOF.mk 31 true true true).status < 32 ∧ 32 ≤ (SOF.mk 32 true true true).status ∧
    ([] : Span).length ≠ 1 := by decide

/-- The largest CP56Time2a that encodes, and for each field one that does not. -/
theorem witness_TimeTagsCodec :
    (let v : CP56 := { ms := 65535, min := 63, iv := true, hour := 31, su := true, day := 31, dow := 7, month := 15, year := 127 };
      v.ms < 2 ^ 16 ∧ v.min < 64 ∧ v.hour < 32 ∧ v.day < 32 ∧ v.dow < 8 ∧ v.month < 16 ∧ v.year < 128) ∧
    2 ^ 16 ≤ { t56 with ms := 65536 }.ms ∧ 64 ≤ { t56 with min := 64 }.min ∧ 32 ≤ { t56 with hour := 32 }.hour ∧
    32 ≤ { t56 with day := 32 }.day ∧ 8 ≤ { t56 with dow := 8 }.dow ∧ 16 ≤ { t56 with month := 16 }.month ∧
    128 ≤ { t56 with year := 128 }.year ∧ (CP16.mk 65535).ms < 2 ^ 16 ∧ 2 ^ 16 ≤ (CP16.mk 65536).ms ∧
    ([1] : Span).length ≠ 2 ∧ ([1, 2] : Span).length ≠ 3 ∧ ([] : Span).length ≠ 7 := by decide

theorem witness_ElementCodecContract :
    ([] : Span).length ≠ elemWidth .siq ∧ ([0x0E] : Span).length = elemWidth .siq ∧ ([0x00] : Span).length = elemWidth .siq ∧
    elemEncode (.siq { noQ with spi := true }) = .ok [0x01] ∧
    ∀ i, at' [0x0E] i &&& ~~~at' (reserved .siq) i = at' [0x00] i &&& ~~~at' (reserved .siq) i :=
  ⟨by decide, by decide, by decide, by decide +kernel, agree_of_head (by decide)⟩

theorem witness_ReservedElementBits :
    elemDecode .siq [0x0F] = .ok (.siq { noQ with spi := true }) ∧ elemDecode .siq [0x01] = .ok (.siq { noQ with spi := true }) ∧
    elemEncode (.siq { noQ with spi := true }) = .ok [0x01] := by decide +kernel

theorem witness_ExactInterpretations :
    elemDecode .nva [0x80, 0x00] = .ok (.nva (-32768)) ∧ elemDecode .nva [0x7F, 0xFF] = .ok (.nva 32767) ∧
    elemDecode .cp16 [0xFF, 0xFF] = .ok (.cp16 { ms := 65535 }) := by decide +kernel

/-- A record of one element that encodes to S. -/
theorem encodesTo_one {f : FieldName} {x : ElemV} {S : Span} (h : elemEncode x = .ok S) : EncodesTo [(f, x)] S :=
  ⟨[S], .cons h .nil, by simp⟩

/-- A record whose first element does not encode. -/
theorem firstFails_head {f : FieldName} {x : ElemV} {v : Record} {e : Err} (h : elemEncode x = .error e) :
    FirstFails ((f, x) :: v) e := ⟨[], f, x, v, rfl, by simp, h⟩

/-- TI 3: a span of each length, a record that encodes and one that does not. -/
theorem witness_MonitorTypesDispatch :
    (∃ r ∈ monitorRows, r.ti = 3 ∧ ([0x02] : Span).length = r.w ∧ ([] : Span).length ≠ r.w ∧
      HasFields r.comp [(.diq, .diq { noQ with dpi := 3 })] ∧ HasFields r.comp [(.diq, .diq { noQ with dpi := 4 })]) ∧
    EncodesTo [(.diq, .diq { noQ with dpi := 3 })] [0x03] ∧
    FirstFails [(.diq, .diq { noQ with dpi := 4 })] (rangeErr .diq .dpi) :=
  ⟨⟨_, .tail _ (.tail _ (.head _)), by simp [HasFields, ElemV.elem]⟩, encodesTo_one (by decide +kernel),
    firstFails_head (by decide +kernel)⟩

/-- TI 14 to 21: the M_ME_ND_1 row. -/
theorem witness_FurtherMonitorTypesDispatch :
    (∃ r ∈ monitorMoreRows, r.ti = 21 ∧ ([0x40, 0x00] : Span).length = r.w ∧ ([] : Span).length ≠ r.w ∧
      HasFields r.comp [(.nva, .nva 32767)] ∧ HasFields r.comp [(.nva, .nva 32768)]) ∧
    EncodesTo [(.nva, .nva 32767)] [0x7F, 0xFF] ∧ FirstFails [(.nva, .nva 32768)] (rangeErr .nva .raw) :=
  ⟨⟨{ ctor := .mMeNd1, ti := 21, w := 2, comp := [(.nva, .nva, 0, 2)] }, by simp [monitorMoreRows],
      by simp [HasFields, ElemV.elem]⟩, encodesTo_one (by decide +kernel), firstFails_head (by decide +kernel)⟩

/-- TI 31: the double point and its time tag. -/
theorem witness_TimeTaggedMonitorTypesDispatch :
    (∃ r ∈ monitorTimeRows, r.ti = 31 ∧ ([0x02, 0x10, 0x27, 0x05, 0x8C, 0x6F, 0x0B, 0x18] : Span).length = r.w ∧
      HasFields r.comp [(.diq, .diq { noQ with dpi := 2 }), (.time, .cp56 t56)] ∧
      HasFields r.comp [(.diq, .diq { noQ with dpi := 4 }), (.time, .cp56 t56)]) ∧
    EncodesTo [(.diq, .diq { noQ with dpi := 2 }), (.time, .cp56 t56)] [0x02, 0x10, 0x27, 0x05, 0x8C, 0x6F, 0x0B, 0x18] ∧
    FirstFails [(.diq, .diq { noQ with dpi := 4 }), (.time, .cp56 t56)] (rangeErr .diq .dpi) :=
  ⟨⟨{ ctor := .mDpTb1, ti := 31, w := 8, comp := [(.diq, .diq, 0, 1), (.cp56, .time, 1, 8)] }, by simp [monitorTimeRows],
      by simp [HasFields, ElemV.elem]⟩,
    ⟨[[0x02], [0x10, 0x27, 0x05, 0x8C, 0x6F, 0x0B, 0x18]], .cons (by decide +kernel) (.cons (by decide +kernel) .nil), by simp⟩,
    firstFails_head (by decide +kernel)⟩

/-- TI 45: the single command. -/
theorem witness_CommandTypesDispatch :
    (∃ r ∈ commandRows, r.ti = 45 ∧ ([0x81] : Span).length = r.w ∧ ([] : Span).length ≠ r.w ∧
      HasFields r.comp [(.sco, .sco { scs := true, qu := 31, se := true })] ∧
      HasFields r.comp [(.sco, .sco { scs := true, qu := 32, se := true })]) ∧
    EncodesTo [(.sco, .sco { scs := true, qu := 31, se := true })] [0xFD] ∧
    FirstFails [(.sco, .sco { scs := true, qu := 32, se := true })] (rangeErr .sco .qu) :=
  ⟨⟨_, .head _, by simp [HasFields, ElemV.elem]⟩, encodesTo_one (by decide +kernel), firstFails_head (by decide +kernel)⟩

/-- TI 58: the single command with its time tag; the second element is the one that fails. -/
theorem witness_TimeTaggedCommandTypesDispatch :
    (∃ r ∈ commandTimeRows, r.ti = 58 ∧ ([0x01, 0, 0, 0, 0, 1, 1, 0] : Span).length = r.w ∧ ([] : Span).length ≠ r.w ∧
      HasFields r.comp [(.sco, .sco { scs := true, qu := 0, se := true }), (.time, .cp56 { t56 with month := 16 })]) ∧
    FirstFails [(.sco, .sco { scs := true, qu := 0, se := true }), (.time, .cp56 { t56 with month := 16 })]
      (rangeErr .cp56 .month) ∧
    EncodesTo [(.sco, .sco { scs := true, qu := 0, se := true }), (.time, .cp56 t56)]
      [0x81, 0x10, 0x27, 0x05, 0x8C, 0x6F, 0x0B, 0x18] :=
  ⟨⟨_, .head _, by simp [HasFields, ElemV.elem]⟩,
    ⟨[(.sco, .sco { scs := true, qu := 0, se := true })], .time, .cp56 { t56 with month := 16 }, [], rfl,
      by simp only [List.mem_singleton, forall_eq]; exact ⟨[0x81], by decide +kernel⟩, by decide +kernel⟩,
    ⟨[[0x81], [0x10, 0x27, 0x05, 0x8C, 0x6F, 0x0B, 0x18]], .cons (by decide +kernel) (.cons (by decide +kernel) .nil), by simp⟩⟩

/-- TI 70, and TI 102 with its empty value. -/
theorem witness_SystemTypesDispatch :
    (∃ r ∈ systemRows, r.ti = 70 ∧ ([0x82] : Span).length = r.w ∧ HasFields r.comp [(.coi, .coi { cause := 127, bs1 := true })] ∧
      HasFields r.comp [(.coi, .coi { cause := 128, bs1 := true })]) ∧
    EncodesTo [(.coi, .coi { cause := 127, bs1 := true })] [0xFF] ∧
    FirstFails [(.coi, .coi { cause := 128, bs1 := true })] (rangeErr .coi .cause) ∧
    (∃ r ∈ systemRows, r.ti = 102 ∧ ([] : Span).length = r.w ∧ ([0] : Span).length ≠ r.w ∧ HasFields r.comp []) ∧
    EncodesTo [] [] :=
  ⟨⟨_, .head _, by simp [HasFields, ElemV.elem]⟩, encodesTo_one (by decide +kernel), firstFails_head (by decide +kernel),
    ⟨{ ctor := .cRdNa1, ti := 102, w := 0, comp := [] }, by simp [systemRows], by simp [HasFields]⟩, ⟨[], .nil, rfl⟩⟩

/-- TI 113: the parameter activation. -/
theorem witness_ParameterAndFileTypesDispatch :
    (∃ r ∈ parameterFileRows, r.ti = 113 ∧ ([0x03] : Span).length = r.w ∧ ([] : Span).length ≠ r.w ∧
      HasFields r.comp [(.qpa, .qpa 255)] ∧ HasFields r.comp [(.qpa, .qpa 256)]) ∧
    EncodesTo [(.qpa, .qpa 255)] [0xFF] ∧ FirstFails [(.qpa, .qpa 256)] (rangeErr .qpa .value) :=
  ⟨⟨{ ctor := .pAcNa1, ti := 113, w := 1, comp := [(.qpa, .qpa, 0, 1)] }, by simp [parameterFileRows],
      by simp [HasFields, ElemV.elem]⟩, encodesTo_one (by decide +kernel), firstFails_head (by decide +kernel)⟩

theorem witness_UnsupportedTypesRefused :
    (0 : Byte) ∉ supported ∧ (125 : Byte) ∉ supported ∧ (128 : Byte) ∉ supported ∧ { g with ti := 125 }.ti = 125 := by decide

theorem witness_ElementValueRoundTrip :
    typeRow 3 = some .mDpNa1 ∧ layoutOf 3 = some layoutMDpNa1 ∧
    typedRecord layoutMDpNa1 [(.diq, .diq { noQ with dpi := 3 })] = true ∧
    gives (exec (.mDpNa1 (.elemEnc [(.diq, .diq { noQ with dpi := 3 })])) State.reset) State.reset (.bytes [0x03]) :=
  ⟨rfl, rfl, by decide, eq_of_nextIs (by decide +kernel)⟩

/-- One span for each clause: too short, count 0, no division in either layout, unsupported, and the wrong width. -/
theorem witness_AsduDecodeErrorOrder :
    ([1, 1, 3, 0, 1] : Span).length < hdr profile104 ∧ hdr profile104 ≤ ([1, 0, 3, 0, 1, 0] : Span).length ∧
    bits (at' [1, 0, 3, 0, 1, 0] 1) 0 7 = 0 ∧ (hdr profile104 ≤ ([1, 1, 3, 0, 1, 0] : Span).length ∧ 1 ≤ bits 1 0 7 ∧
      ¬ divides false 0 1 3) ∧ ¬ divides true 6 2 3 ∧ divides false 4 1 3 ∧ divides true 3 127 3 ∧ (22 : Byte) ∉ supported ∧
    layoutOf 9 = some layoutMMeNa1 ∧ derivedWidth false 4 1 3 ≠ layoutWidth layoutMMeNa1 := by
  refine ⟨?_, ?_, ?_, ⟨?_, ?_, ?_⟩, ?_, ?_, ?_, ?_, rfl, ?_⟩ <;> first | decide | simp [divides]

/-- One object in set layout and 127 in sequence layout. -/
theorem witness_AsduDecodeResult :
    typeRow 1 = some .mSpNa1 ∧ layoutOf 1 = some layoutMSpNa1 ∧ 1 ≤ bits 0x01 0 7 ∧
    ([1, 1, 3, 0, 1, 0, 0x0A, 0, 0, 1] : Span).length = asduLength profile104 false 1 (layoutWidth layoutMSpNa1) ∧
    bits 0xFF 0 7 = 127 ∧
    ([1, 0xFF, 3, 0, 1, 0, 0x0A, 0, 0] ++ List.replicate 127 1 : Span).length =
      asduLength profile104 true 127 (layoutWidth layoutMSpNa1) ∧ profile104.Ok := by
  refine ⟨rfl, rfl, ?_, ?_, ?_, ?_, ?_⟩ <;> decide +kernel

/-- The records of the encode-error clauses: the count, each header field, an address, an element, the base address and
an address out of sequence. -/
theorem witness_AsduEncodeErrorOrder :
    (22 : Byte) ∉ supported ∧ typeRow 3 = some .mDpNa1 ∧ ¬ CountOk { a16.toAsduBody with n := 2 } ∧ CountOk a16.toAsduBody ∧
    64 ≤ ({ a16.cot with cause := 64 } : Cot).cause ∧ ¬ OaOk profile104 { a16.cot with oa := none } ∧
    OaOk profile104 a16.cot ∧ 2 ^ (8 * profile104.caW) ≤ 65536 ∧ HeaderOk profile104 a16.toAsduBody ∧
    a16.sq = false ∧ ValuesEncodeBelow a16.toAsduBody 0 ∧ 2 ^ (8 * profile104.ioaW) ≤ 16777216 ∧
    FirstFails [(.diq, .diq { noQ with dpi := 4 })] (rangeErr .diq .dpi) ∧
    (spAsdu true 2 3 (some 0) [(5, spOn), (7, spOff)]).objs[1]? = some { ioa := 7, val := spOff } ∧ 7 ≠ 5 + 1 ∧
    (∀ i < 1, ∀ q, (spAsdu true 2 3 (some 0) [(5, spOn), (7, spOff)]).objs[i]? = some q → q.ioa = 5 + i) ∧
    HeaderOk profile104 (spAsdu true 2 3 (some 0) [(5, spOn), (7, spOff)]).toAsduBody := by
  have ho : OaOk profile104 a16.cot := ⟨0, rfl, by decide⟩
  refine ⟨by decide, rfl, by simp [CountOk, a16, spAsdu], ⟨by decide, by decide, rfl⟩, by decide,
    by simp [OaOk, profile104], ho, by decide, ⟨⟨by decide, by decide, rfl⟩, by decide, ho, by decide⟩, rfl, by simp [ValuesEncodeBelow], by decide,
    firstFails_head (by decide +kernel), rfl, by decide, ?_, ⟨⟨by decide, by decide, rfl⟩, by decide, ⟨0, rfl, by decide⟩, by decide⟩⟩
  intro i hi q hq
  obtain rfl : i = 0 := by omega
  simp [spAsdu] at hq
  rw [← hq]

/-- One object in set layout, and two in sequence layout from the highest address of the profile. -/
theorem witness_AsduEncodeResult :
    typeRow 1 = some .mSpNa1 ∧ layoutOf 1 = some layoutMSpNa1 ∧ profile104.Ok ∧ HeaderOk profile104 a16.toAsduBody ∧
    typedObjs layoutMSpNa1 a16.objs = true ∧ ValuesEncodeBelow a16.toAsduBody a16.n ∧
    (∀ p ∈ a16.objs, p.ioa < 2 ^ (8 * profile104.ioaW)) ∧
    ∃ b, b = 16777215 ∧ b < 2 ^ (8 * profile104.ioaW) ∧
      ∀ i p, (spAsdu true 2 3 (some 0) [(16777215, spOn), (16777216, spOff)]).objs[i]? = some p → p.ioa = b + i := by
  refine ⟨rfl, rfl, by decide, ⟨⟨by decide, by decide, rfl⟩, by decide, ⟨0, rfl, by decide⟩, by decide⟩, by decide, ?_, by decide, _, rfl, by decide, ?_⟩
  · intro j _ p hp
    have : p.val = spOn := by
      cases j with
      | zero => simp [a16, spAsdu] at hp; rw [← hp]
      | succ j => simp [a16, spAsdu] at hp
    exact ⟨[0x01], this ▸ encodesTo_one (by decide +kernel)⟩
  · intro i p hp
    match i with
    | 0 => simp [spAsdu] at hp; rw [← hp]
    | 1 => simp [spAsdu] at hp; rw [← hp]
    | i + 2 => simp [spAsdu] at hp

/-- The reserved bits of a span of TI 102, whose value is empty, are 0. -/
theorem witness_AsduRoundTrip :
    typeRow 102 = some .cRdNa1 ∧ layoutOf 102 = some layoutCRdNa1 ∧ State.reset.cfg.Ok ∧
    (let a : AsduBody := { sq := false, n := 1, cot := a16.cot, ca := 1, objs := [{ ioa := 10, val := [] }] };
      typedObjs layoutCRdNa1 a.objs = true ∧
      gives (exec (.cRdNa1 (.asduEnc a)) State.reset) State.reset (.bytes [0x66, 1, 3, 0, 1, 0, 0x0A, 0, 0]) ∧
      gives (exec (.cRdNa1 (.asduDec [1, 3, 0, 1, 0, 0x0A, 0, 0])) State.reset) State.reset (.asdu { a with ti := 102 })) ∧
    AsduReservedZero State.reset.cfg [0x66, 1, 3, 0, 1, 0, 0x0A, 0, 0] := by
  refine ⟨rfl, rfl, by decide, ⟨by decide, eq_of_nextIs (by decide +kernel), eq_of_nextIs (by decide +kernel)⟩, ?_⟩
  intro lay hl i _
  obtain rfl : lay = layoutCRdNa1 := by
    have h : layoutOf 0x66 = some layoutCRdNa1 := rfl
    exact Option.some.inj (hl.symm.trans h)
  trivial

/-- Control bytes of each arm at the ends of their ranges, and spans of other lengths. -/
theorem witness_ApciDecode :
    (0x00 : Byte).getLsbD 0 = false ∧ (0xFE : Byte).getLsbD 0 = false ∧ ((0xFD : Byte).getLsbD 0 = true ∧
    (0xFD : Byte).getLsbD 1 = false) ∧ ((0x03 : Byte).getLsbD 0 = true ∧ (0x03 : Byte).getLsbD 1 = true ∧
    (0x03 : Byte) ∉ uRows.map (·.2.2)) ∧ (0xFF : Byte) ∉ uRows.map (·.2.2) ∧ ([0, 0, 0] : Span).length ≠ 4 ∧
    (.testfrCon, .uTestfrCon, 0x83) ∈ uRows := by
  refine ⟨by decide, by decide, by decide, by decide, by decide, by decide, by simp [uRows]⟩

theorem witness_ApciEncode : 32767 < 2 ^ 15 ∧ 2 ^ 15 ≤ 32768 := by decide

theorem witness_ApciRoundTrip :
    gives (runRequest (.apciEnc (.i 32767 0)) State.reset) State.reset (.bytes [0xFE, 0xFF, 0, 0]) ∧
    gives (runRequest (.apciDec [0xFE, 0xFF, 0, 0]) State.reset) State.reset (.apci (.i 32767 0)) ∧
    ApciIgnoredZero [0xFE, 0xFF, 0, 0] ∧ ApciIgnoredZero [0x01, 0, 0x0A, 0] ∧ ApciIgnoredZero [0x83, 0, 0, 0] :=
  ⟨eq_of_nextIs (by decide +kernel), eq_of_nextIs (by decide +kernel), .inl (by decide), .inr (.inl (by decide)),
    .inr (.inr (by decide))⟩

/-- The two-byte slice and a frame. -/
theorem witness_SplitLaw : ∀ f ∈ ([[0x68, 0], [0x68, 4, 7, 0, 0, 0]] : List Span), IsSlice f := by
  intro f hf
  simp only [List.mem_cons, List.not_mem_nil, or_false] at hf
  rcases hf with rfl | rfl
  · exact ⟨0, [], rfl, rfl⟩
  · exact ⟨4, [7, 0, 0, 0], rfl, rfl⟩

/-- A stopped framer, and a running one with each of the three end statuses. -/
theorem witness_FeedCases :
    { State.reset with framer := .stopped }.framer = .stopped ∧ State.reset.framer = .run ∧
    gives (runRequest (.split (State.reset.rxbuf ++ [0x68, 0])) State.reset) State.reset (.frames [[0x68, 0]] .ok) ∧
    gives (runRequest (.split (State.reset.rxbuf ++ [0x68])) State.reset) State.reset (.frames [] (.error (.m2 0))) ∧
    gives (runRequest (.split (State.reset.rxbuf ++ [0x69])) State.reset) State.reset (.frames [] (.error (.m1 0))) :=
  ⟨rfl, rfl, eq_of_nextIs (by decide +kernel), eq_of_nextIs (by decide +kernel), eq_of_nextIs (by decide +kernel)⟩

theorem reset_inv : State.reset.Inv := ⟨by decide, rfl, rfl, by decide⟩

theorem witness_TailBound :
    State.reset.Inv ∧ runRequest (.feed (0x68 :: 0xFF :: List.replicate 254 0)) State.reset =
      .next { State.reset with
        rxbuf := 0x68 :: 0xFF :: List.replicate 254 0, resps := [.frames [] (.incomplete 256)] } :=
  ⟨reset_inv, eq_of_nextIs (by decide +kernel)⟩

/-- A frame in two pieces, with a truncated tail. -/
theorem witness_ChunkingInvariance :
    let s := { State.reset with reqs := [.feed [0x68, 4, 7], .feed [0, 0, 0, 0x68]] }
    s.framer = .run ∧ s.rxbuf = [] ∧ s.reqs = [[0x68, 4, 7], [0, 0, 0, 0x68]].map .feed ∧
    gives (runRequest (.split [0x68, 4, 7, 0, 0, 0, 0x68]) s) s (.frames [[0x68, 4, 7, 0, 0, 0]] (.error (.m2 6))) ∧
    ∀ p, Status.error (.m2 6) ≠ .error (.m1 p) :=
  ⟨rfl, rfl, rfl, eq_of_nextIs (by decide +kernel), by simp⟩

/-- Frames at the edges of the checks: L of 3, 4, 253 and 254, and an ASDU that decodes and one that does not. -/
theorem witness_FrameDecode :
    at' [0x69] 0 ≠ 0x68 ∧ (([0x68] : Span) ≠ [] ∧ at' [0x68] 0 = 0x68 ∧ ([0x68] : Span).length < 2) ∧
    ([0x68, 3, 0, 0, 0] : Span).length = (at' [0x68, 3, 0, 0, 0] 1).toNat + 2 ∧ profile104.maxLen < (0xFE : Byte).toNat ∧
    (4 ≤ (4 : Byte).toNat ∧ (0xFD : Byte).toNat ≤ profile104.maxLen) ∧
    gives (runRequest (.asduDec gBytes) State.reset) State.reset (.asdu g) ∧
    gives (runRequest (.asduDec []) State.reset) State.reset (.err (.malformedFrame .m7)) :=
  ⟨by decide, by decide, by decide, by decide, by decide, eq_of_nextIs (by decide +kernel), eq_of_nextIs (by decide +kernel)⟩

/-- An ASDU that encodes and fits, one that does not encode, and a configuration in which the first does not fit. -/
theorem witness_ComposeFrame :
    State.reset.cfg.Ok ∧ gives (runRequest (.asduEnc g) State.reset) State.reset (.bytes gBytes) ∧
    4 + gBytes.length ≤ State.reset.cfg.maxLen ∧ { profile104 with maxLen := 13 }.maxLen < 4 + gBytes.length ∧
    gives (runRequest (.asduEnc { g with ca := 65536 }) State.reset) State.reset (.err (.encodeError (.x1 .ca))) ∧
    32767 < 2 ^ 15 ∧ 2 ^ 15 ≤ 32768 :=
  ⟨by decide, eq_of_nextIs (by decide +kernel), by decide, by decide, eq_of_nextIs (by decide +kernel), by decide, by decide⟩

theorem witness_FrameRoundTrip :
    State.reset.cfg.Ok ∧ gives (runRequest (.compose { apci := .s 5, asdu := none }) State.reset) State.reset
      (.bytes [0x68, 4, 1, 0, 0x0A, 0]) ∧
    gives (runRequest (.frameDec [0x68, 4, 1, 0, 0x0A, 0]) State.reset) State.reset (.apdu { apci := .s 5, asdu := none }) ∧
    ApciIgnoredZero (slice [0x68, 4, 1, 0, 0x0A, 0] 2 6) ∧
    AsduReservedZero State.reset.cfg (([0x68, 4, 1, 0, 0x0A, 0] : Span).drop 6) := by
  refine ⟨by decide, eq_of_nextIs (by decide +kernel), eq_of_nextIs (by decide +kernel), .inr (.inl (by decide)), ?_⟩
  intro lay hl
  have h : layoutOf 0 = none := rfl
  exact absurd (hl.symm.trans h) (by simp)

/-- Accepted and refused numbers on a connected link, at the wrap. -/
theorem witness_ReceiveIFrame :
    (linkState 2 32767 0 .linkTxS).link = .connected ∧ 2 = (2 : Seq15).toNat ∧ 32767 = (32767 : Seq15).toNat ∧
    ¬ (0 = (2 : Seq15).toNat ∧ 32767 = (32767 : Seq15).toNat) := by decide

theorem witness_ReceiveSFrame :
    (linkState 1 0 0 .linkTxS).link = .connected ∧ 1 = (1 : Seq15).toNat ∧ 0 ≠ (1 : Seq15).toNat := by decide

theorem witness_UFramesTouchNoCounter :
    State.reset.link = .connected ∧ State.reset.cfg.Ok ∧ { profile104 with maxLen := 4 }.Ok ∧
    (.startdtAct, .uStartdtAct, 0x07) ∈ uRows := ⟨rfl, by decide, by decide, by simp [uRows]⟩

theorem witness_SendIFrame :
    let s := linkState 32767 0 0 .linkTxS
    s.link = .connected ∧ gives (runRequest (.compose { apci := .i 32767 0, asdu := some g }) s) s
      (.bytes (0x68 :: 0x0E :: 0xFE :: 0xFF :: 0 :: 0 :: gBytes)) ∧
    gives (runRequest (.compose { apci := .i 32767 0, asdu := some { g with ti := 22 } }) s) s
      (.err (.unsupportedType (.u1 22))) :=
  ⟨rfl, eq_of_nextIs (by decide +kernel), eq_of_nextIs (by decide +kernel)⟩

theorem witness_SendSFrame :
    (linkState 32767 5 0 .linkTxS).link = .connected ∧ (linkState 32767 5 0 .linkTxS).cfg.Ok := by decide

theorem witness_ClosedLinkRefuses : { State.reset with link := .closed }.link = .closed := rfl

/-- Two frames sent in a run that wraps V(S). -/
theorem witness_SendCount :
    let s := { State.reset with vs := 32767, reqs := [.linkTxI g, .linkTxS, .transportClosed] }
    (∀ r ∈ s.reqs.take 3, isReset r = false) ∧ (match Host.Core.run core 3 s with
      | .next t => decide ((State.toBlock t).vs = 1 ∧ State.resps t = [.bytes (0x68 :: 0x0E :: 0xFE :: 0xFF :: 0 :: 0 :: gBytes),
          .bytes [0x68, 4, 1, 0, 0, 0], .done])
      | _ => false) = true := by
  refine ⟨by decide, by decide +kernel⟩

theorem witness_StepRunsDecodedInstruction :
    (stateOf profile104 [.linkTxS]).reqs = .linkTxS :: [] ∧ decode .linkTxS = .ok (.sFormat .linkTx) ∧
    (Instr.sFormat .linkTx).wellFormed = true ∧ decode .transportClosed = .error .noRow ∧ State.reset.reqs = [] := by
  decide +kernel

theorem witness_DecodeOfEncode :
    (Instr.uTestfrAct (.apciDec 0x12 0x34 0x56)).wellFormed = true ∧ (Instr.iFormat (.linkTx g)).wellFormed = true ∧
    (Instr.mSpNa1 (.elemEnc spOn)).wellFormed = true := by decide +kernel

theorem witness_RowsImplementOperations :
    decode (.asduDec [1, 1]) = .ok (.mSpNa1 (.asduDec [1])) ∧ decode (.linkTxU .testfrCon) = .ok (.uTestfrCon .linkTx) := by
  decide +kernel

theorem witness_StatelessOperations :
    isStateless (.asduEnc g) = true ∧ wellTyped (.asduEnc g) = true ∧ State.reset.cfg = profile104 := by decide +kernel

/-- A step of each writing operation, and of a reading one in two states. -/
theorem witness_AccessTable :
    runRequest .transportClosed State.reset = .next { State.reset with link := .closed, resps := [.done] } ∧
    runRequest (.feed [0x68]) State.reset =
      .next { State.reset with rxbuf := [0x68], resps := [.frames [] (.incomplete 1)] } ∧
    runRequest (.linkRx { apci := .s 0, asdu := none }) State.reset =
      .next { State.reset with vr := 1, resps := [.verdict .acceptS] } ∧
    runRequest (.linkTxU .testfrAct) { State.reset with vs := 9 } =
      .next { State.reset with vs := 9, resps := [.bytes [0x68, 4, 0x43, 0, 0, 0]] } :=
  ⟨eq_of_nextIs (by decide +kernel), eq_of_nextIs (by decide +kernel), eq_of_nextIs (by decide +kernel),
    eq_of_nextIs (by decide +kernel)⟩

/-- A violation, another error, and an M1 status of FEED. -/
theorem witness_ErrorEffects :
    runRequest (.linkRx { apci := .s 1, asdu := none }) State.reset =
      .next { State.reset with link := .closed, resps := [.err (.sequenceViolation (.s2 0 1))] } ∧
    runRequest (.apciDec []) State.reset = .next { State.reset with resps := [.err (.malformedFrame .m5)] } ∧
    runRequest (.feed [0x69]) { State.reset with rxbuf := [] } =
      .next { State.reset with framer := .stopped, ferr := some (.m1 0), resps := [.frames [] (.error (.m1 0))] } :=
  ⟨eq_of_nextIs (by decide +kernel), eq_of_nextIs (by decide +kernel), eq_of_nextIs (by decide +kernel)⟩

theorem witness_StickyUntilReset :
    let s := { State.reset with link := .closed, framer := .stopped, ferr := some (.m1 3), reqs := [.linkTxS, .feed [0x68]] }
    (∀ r ∈ s.reqs.take 2, isReset r = false) ∧ s.link = .closed ∧ s.framer = .stopped ∧
    (match Host.Core.run core 2 s with
      | .next t => decide (State.resps t = [.err .connectionClosed, .err (.framerStopped (some (.m1 3)))])
      | _ => false) = true := by
  refine ⟨by decide, rfl, rfl, by decide +kernel⟩

theorem witness_ResetSetsEveryField :
    { profile104 with maxLen := 4, ioaW := 1 }.Ok ∧ { profile104 with maxLen := 255 }.Ok ∧
    ¬ { profile104 with maxLen := 3 }.Ok ∧ ¬ { profile104 with maxLen := 256 }.Ok ∧ ¬ { profile104 with cotW := 0 }.Ok ∧
    ¬ { profile104 with caW := 3 }.Ok ∧ ¬ { profile104 with ioaW := 4 }.Ok := by
  refine ⟨?_, ?_, ?_, ?_, ?_, ?_, ?_⟩ <;> decide

theorem witness_StepKeepsInvariant :
    (stateOf profile104 [.feed [0x69]]).Inv ∧ step (stateOf profile104 [.feed [0x69]]) =
      .next { State.reset with framer := .stopped, ferr := some (.m1 0), resps := [.frames [] (.error (.m1 0))] } :=
  ⟨⟨by decide, rfl, rfl, by decide⟩, eq_of_nextIs (by decide +kernel)⟩

theorem witness_OneResultPerOperation :
    (match Host.Core.run core 3 (stateOf profile104 [.linkTxS, .transportClosed]) with
      | .next t => decide (State.reqs t = [] ∧ State.resps t = [.bytes [0x68, 4, 1, 0, 0, 0], .done])
      | _ => false) = true := by decide +kernel

theorem witness_EveryOperationAnswered :
    (stateOf profile104 [.compose { apci := .i 0 0, asdu := none }]).reqs = [.compose { apci := .i 0 0, asdu := none }] ∧
    wellTyped (.compose { apci := .i 0 0, asdu := none }) = true ∧
    wellTyped (.linkRx { apci := .i 0 0, asdu := none }) = false ∧ wellTyped (.elemEnc 1 []) = false := by decide +kernel

/-- Two states with one block and different lists: a link operation that runs, and one that is refused. -/
theorem witness_OperationsReadBlockAlone :
    let s := { stateOf profile104 [.linkTxS] with resps := [.done] }
    s.toBlock = Block.reset profile104 ∧ (stateOf profile104 []).toBlock = Block.reset profile104 ∧
    runRequest .linkTxS s = .next { s with vs := 1, resps := [.done, .bytes [0x68, 4, 1, 0, 0, 0]] } ∧
    runRequest .linkTxS (stateOf profile104 []) =
      .next { State.reset with vs := 1, resps := [.bytes [0x68, 4, 1, 0, 0, 0]] } ∧
    runRequest (.linkRx { apci := .i 0 0, asdu := none }) s = .refused .illTypedOperand :=
  ⟨rfl, rfl, eq_of_nextIs (by decide +kernel), eq_of_nextIs (by decide +kernel), rfl⟩

end Sys2Proof.Tests
end

section
/-! PROOFS of the scope statements (00_scope R9 to R11): what the decoder selects, that the rows and the operations
are one machine, which update each operation makes before its one result is given, and what a run does to the owner's
lists. -/
namespace Sys2Proof
open Sys2Proof.Machine Sys2Proof.Claims

/-! ### What the decoder selects -/

/-- Byte 2 of the slice f selects the format F (R308). -/
def FrameSelects (F : Format) (f : Span) : Prop := 3 ≤ f.length ∧ formatOf (byteAt f 2) = F

/-- The operand bytes of op, where they select the row, select the I format. -/
def IOp.Selects : IOp → Prop
  | .apciDec c0 _ _ _ => formatOf c0 = .i
  | .frameDec f => FrameSelects .i f
  | _ => True

/-- The operand bytes of op, where they select the row, select the S format. -/
def SOp.Selects : SOp → Prop
  | .apciDec c0 _ _ _ => formatOf c0 = .s
  | .frameDec f => FrameSelects .s f
  | _ => True

/-- The frame slice of op, if it has one, selects the row of act; in `APCI_DEC` c0 is the row's code itself. -/
def UOp.Selects (act : UAct) : UOp → Prop
  | .frameDec f => FrameSelects (.u (some act)) f
  | _ => True

/-- The request r selects the instruction i: a type row by its identifier, a control row by its format (R72, R76, R84). -/
inductive Selects : Request → Instr → Prop
  | ofType {t : Byte} {mk : TypeOp → Instr} (hm : typeRow t = some mk) (op : TypeOp) : Selects (encodeType t op) (mk op)
  | ofI (op : IOp) (hs : op.Selects) : Selects (encodeI op) (.iFormat op)
  | ofS (op : SOp) (hs : op.Selects) : Selects (encodeS op) (.sFormat op)
  | ofU (act : UAct) (op : UOp) (hs : op.Selects act) : Selects (encodeU act op) (uRow act op)

theorem selects_of_onType {t : Byte} {op : TypeOp} {i : Instr} (h : onType t op = .ok i) :
    Selects (encodeType t op) i := by
  obtain ⟨mk, hm, rfl⟩ := onType_ok h
  exact .ofType hm op

/-- Decoding on a control byte: the row is the one of the byte's format. -/
theorem onControl_ok {c0 : Byte} {iop : IOp} {sop : SOp} {uop : UOp} {i : Instr} (h : onControl c0 iop sop uop = .ok i) :
    (formatOf c0 = .i ∧ i = .iFormat iop) ∨ (formatOf c0 = .s ∧ i = .sFormat sop) ∨
      ∃ act, formatOf c0 = .u (some act) ∧ i = uRow act uop := by
  unfold onControl at h
  split at h
  next hf => cases h; exact .inl ⟨hf, rfl⟩
  next hf => cases h; exact .inr (.inl ⟨hf, rfl⟩)
  next act hf => cases h; exact .inr (.inr ⟨act, hf, rfl⟩)
  next => cases h

/-- The four control bytes of an `APCI_DEC` that decodes select by c0 alone (R54, R72). -/
theorem selects_of_decode_apciDec {c : Span} {i : Instr} (h : decode (.apciDec c) = .ok i) : Selects (.apciDec c) i := by
  match c, h with
  | [c0, c1, c2, c3], h =>
    obtain ⟨hf, rfl⟩ | ⟨hf, rfl⟩ | ⟨act, hf, rfl⟩ := onControl_ok h
    · exact .ofI (.apciDec c0 c1 c2 c3) hf
    · exact .ofS (.apciDec c0 c1 c2 c3) hf
    · obtain rfl := eq_uCode_of_formatOf c0 act hf
      exact .ofU act (.apciDec c1 c2 c3) trivial

/-- A frame slice that decodes has a control byte 0 and selects by it. -/
theorem selects_of_decode_frameDec {f : Span} {i : Instr} (h : decode (.frameDec f) = .ok i) : Selects (.frameDec f) i := by
  simp only [decode] at h
  split at h
  next => cases h
  next hlen =>
    have hlen : 3 ≤ f.length := by omega
    obtain ⟨hf, rfl⟩ | ⟨hf, rfl⟩ | ⟨act, hf, rfl⟩ := onControl_ok h
    · exact .ofI (.frameDec f) ⟨hlen, hf⟩
    · exact .ofS (.frameDec f) ⟨hlen, hf⟩
    · exact .ofU act (.frameDec f) ⟨hlen, hf⟩

/-- Every request that decodes selects the instruction it decodes to. -/
theorem selects_of_decode {r : Request} {i : Instr} (h : decode r = .ok i) : Selects r i := by
  cases r with
  | elemDec t S => exact selects_of_onType h
  | elemEnc t v => exact selects_of_onType h
  | asduDec A =>
    cases A with
    | nil => cases h
    | cons t rest => exact selects_of_onType h
  | asduEnc a => exact selects_of_onType (op := .asduEnc a.toAsduBody) h
  | apciDec c => exact selects_of_decode_apciDec h
  | frameDec f => exact selects_of_decode_frameDec h
  | apciEnc a =>
    cases a with
    | i ns nr => cases h; exact .ofI (.apciEnc ns nr) trivial
    | s nr => cases h; exact .ofS (.apciEnc nr) trivial
    | u act => cases h; exact .ofU act .apciEnc trivial
  | compose p =>
    obtain ⟨apci, asdu⟩ := p
    cases apci with
    | i ns nr => cases h; exact .ofI (.compose ns nr asdu) trivial
    | s nr => cases h; exact .ofS (.compose nr asdu) trivial
    | u act => cases h; exact .ofU act (.compose asdu) trivial
  | linkRx p =>
    obtain ⟨apci, asdu⟩ := p
    match apci, asdu, h with
    | .i ns nr, some a, h => cases h; exact .ofI (.linkRx ns nr a) trivial
    | .s nr, none, h => cases h; exact .ofS (.linkRx nr) trivial
    | .u act, none, h => cases h; exact .ofU act .linkRx trivial
  | linkTxI a => cases h; exact .ofI (.linkTx a) trivial
  | linkTxS => cases h; exact .ofS .linkTx trivial
  | linkTxU act => cases h; exact .ofU act .linkTx trivial
  | split buf => cases h
  | feed b => cases h
  | transportClosed => cases h
  | reset c => cases h

/-! ### The rows and the operations are one machine -/

/-- A supported type's row performs the four operations on that type. -/
theorem execTypeRow_eq_runOp {t : Byte} {lay : Layout} (hl : layoutOf t = some lay) (op : TypeOp) (s : State) :
    execTypeRow t lay op s = runOp (encodeType t op) s := by
  cases op with
  | elemDec S => simp [execTypeRow, encodeType, runOp, elemDec, hl]
  | elemEnc v => simp [execTypeRow, encodeType, runOp, elemEnc, hl]
  | asduDec rest => simp [execTypeRow, encodeType, runOp, asduDec, byteAt, hl]
  | asduEnc a => simp [execTypeRow, encodeType, runOp, asduEnc, hl]

theorem execIFormat_eq_runOp {op : IOp} (hs : op.Selects) (s : State) : execIFormat op s = runOp (encodeI op) s := by
  cases op with
  | apciDec c0 c1 c2 c3 =>
    have hf : formatOf c0 = .i := hs
    simp [execIFormat, encodeI, runOp, apciDec, hf, Except.map]
  | _ => rfl

theorem execSFormat_eq_runOp {op : SOp} (hs : op.Selects) (s : State) : execSFormat op s = runOp (encodeS op) s := by
  cases op with
  | apciDec c0 c1 c2 c3 =>
    have hf : formatOf c0 = .s := hs
    simp [execSFormat, encodeS, runOp, apciDec, hf, Except.map]
  | _ => rfl

/-- A U row needs no premise: its `APCI_DEC` holds the row's own code. -/
theorem execURow_eq_runOp (act : UAct) (op : UOp) (s : State) : execURow act op s = runOp (encodeU act op) s := by
  cases op with
  | apciDec c1 c2 c3 => simp [execURow, encodeU, runOp, apciDec, formatOf_uCode, Except.map]
  | _ => rfl

/-- The meaning of the instruction a request selects is the operation requested. -/
theorem exec_eq_runOp {r : Request} {i : Instr} (h : Selects r i) (s : State) : exec i s = runOp r s := by
  cases h with
  | ofType hm op =>
    obtain ⟨lay, hl, -, -, hexec⟩ := typeRow_facts hm
    rw [hexec, execTypeRow_eq_runOp hl]
  | ofI op hs => exact execIFormat_eq_runOp hs s
  | ofS op hs => exact execSFormat_eq_runOp hs s
  | ofU act op hs =>
    obtain ⟨-, -, hexec⟩ := uRow_facts act op
    rw [hexec, execURow_eq_runOp]

/-- Settles O48: decoding selects a row, and each row performs the operations that select it. -/
theorem rowsImplementOperations : Obligations.RowsImplementOperations :=
  fun _ _ s h => exec_eq_runOp (selects_of_decode h) s

/-! ### The checks of a row are those of the operands' types -/

theorem FrameSelects.check {F : Format} {f : Span} (h : FrameSelects F f) :
    (decide (3 ≤ f.length) && formatOf (byteAt f 2) == F) = true := by
  obtain ⟨hlen, hf⟩ := h
  simp [hlen, hf]

theorem wellFormedType_eq_wellTyped {t : Byte} {lay : Layout} (hl : layoutOf t = some lay) (op : TypeOp) :
    wellFormedType lay op = wellTyped (encodeType t op) := by
  cases op with
  | elemDec S => rfl
  | elemEnc v => simp [wellFormedType, encodeType, wellTyped, hl]
  | asduDec rest => rfl
  | asduEnc a => simp [wellFormedType, encodeType, wellTyped, typedAsdu, hl]

theorem wellFormedI_eq_wellTyped {op : IOp} (hs : op.Selects) : wellFormedI op = wellTyped (encodeI op) := by
  cases op with
  | apciDec c0 c1 c2 c3 => exact beq_iff_eq.2 hs
  | frameDec f => exact FrameSelects.check hs
  | linkRx ns nr a => simp [wellFormedI, encodeI, wellTyped]
  | _ => rfl

theorem wellFormedS_eq_wellTyped {op : SOp} (hs : op.Selects) : wellFormedS op = wellTyped (encodeS op) := by
  cases op with
  | apciDec c0 c1 c2 c3 => exact beq_iff_eq.2 hs
  | frameDec f => exact FrameSelects.check hs
  | _ => rfl

theorem wellFormedU_eq_wellTyped {act : UAct} {op : UOp} (hs : op.Selects act) :
    wellFormedU act op = wellTyped (encodeU act op) := by
  cases op with
  | frameDec f => exact FrameSelects.check hs
  | _ => rfl

/-- An instruction is well formed exactly when the operands of the request that selects it are values of their types. -/
theorem wellFormed_eq_wellTyped {r : Request} {i : Instr} (h : Selects r i) : i.wellFormed = wellTyped r := by
  cases h with
  | ofType hm op =>
    obtain ⟨lay, hl, hwf, -, -⟩ := typeRow_facts hm
    rw [hwf, wellFormedType_eq_wellTyped hl]
  | ofI op hs => exact wellFormedI_eq_wellTyped hs
  | ofS op hs => exact wellFormedS_eq_wellTyped hs
  | ofU act op hs =>
    obtain ⟨hwf, -, -⟩ := uRow_facts act op
    rw [hwf, wellFormedU_eq_wellTyped hs]

/-- On operands of their types a request is the operation, whether or not it selects a row. -/
theorem runRequest_eq_runOp {r : Request} (hw : wellTyped r = true) (s : State) : runRequest r s = runOp r s := by
  cases hd : decode r with
  | ok i =>
    have hsel := selects_of_decode hd
    rw [runRequest_instr s hd ((wellFormed_eq_wellTyped hsel).trans hw), exec_eq_runOp hsel]
  | error e => exact runRequest_noRow s hd

/-- A request that gives a next state gives the operation's. -/
theorem runOp_of_runRequest_next {r : Request} {s t : State} (h : runRequest r s = .next t) : runOp r s = .next t := by
  cases hd : decode r with
  | ok i =>
    cases hw : i.wellFormed with
    | true => rwa [runRequest_instr s hd hw, exec_eq_runOp (selects_of_decode hd)] at h
    | false => rw [runRequest_illTyped s hd hw] at h; cases h
  | error e => rwa [runRequest_noRow s hd] at h

/-! ### The stateless operations (R11) -/

/-- A value or error computed from the configuration alone is one result for all states of that configuration. -/
theorem answer_of_cfg (f : Cfg → Except Err Response) (c : Cfg) :
    ∃ x, ∀ s : State, s.cfg = c → answer (f s.cfg) s = reply x s := by
  cases hf : f c with
  | ok x => exact ⟨x, fun s hs => by rw [hs, hf, answer_ok]⟩
  | error e => exact ⟨.err e, fun s hs => by rw [hs, hf, answer_error]⟩

theorem runOp_of_isStateless {r : Request} (h : isStateless r = true) (c : Cfg) :
    ∃ x, ∀ s : State, s.cfg = c → runOp r s = reply x s := by
  cases r with
  | elemDec t S => exact answer_of_cfg (fun _ => (elemDec t S).map .elem) c
  | elemEnc t v => exact answer_of_cfg (fun _ => (elemEnc t v).map .bytes) c
  | asduDec A => exact answer_of_cfg (fun c => (asduDec c A).map .asdu) c
  | asduEnc a => exact answer_of_cfg (fun c => (asduEnc c a).map .bytes) c
  | apciDec b => exact answer_of_cfg (fun _ => (apciDec b).map .apci) c
  | apciEnc a => exact answer_of_cfg (fun _ => (apciEnc a).map .bytes) c
  | frameDec f => exact answer_of_cfg (fun c => (frameDec c f).map .apdu) c
  | compose p => exact answer_of_cfg (fun c => (compose c p).map .bytes) c
  | split buf => exact ⟨_, fun _ _ => rfl⟩
  | feed | linkRx | linkTxI | linkTxS | linkTxU | transportClosed | reset => cases h

/-- Settles O49: on typed operands the request is the operation, which reads the configuration and replies. -/
theorem statelessOperations : Obligations.StatelessOperations := by
  intro r hstateless hw c
  obtain ⟨x, hx⟩ := runOp_of_isStateless hstateless c
  refine ⟨x, fun s hs => ?_⟩
  rw [runRequest_eq_runOp hw, hx s hs, reply_eq]

/-! ### The update each operation makes before its result is given (R42, R351) -/

/-- u is a state the operation r can leave s in, before the one result is given to the owner. -/
inductive Effect : Request → State → State → Prop
  | keep (r : Request) (s : State) : Effect r s s
  | keepTail (b S : Span) (s : State) : Effect (.feed b) s (s.setTail S)
  | stopFramer (b : Span) (m : Malformed) (s : State) : Effect (.feed b) s (s.stopFramer m)
  | accept (p : Apdu) (nr : Nat) (s : State) (hp : ∀ act, p.apci ≠ .u act) : Effect (.linkRx p) s (s.accept nr)
  | violation (p : Apdu) (s : State) (hp : ∀ act, p.apci ≠ .u act) : Effect (.linkRx p) s s.close
  | sendI (a : Asdu) (s : State) : Effect (.linkTxI a) s s.advanceVs
  | sendS (s : State) (hc : s.cfg.sTxAdvancesVs = true) : Effect .linkTxS s s.advanceVs
  | transportClosed (s : State) : Effect .transportClosed s s.close
  | reset (c : Cfg) (s : State) (hc : c.Ok) : Effect (.reset c) s (s.resetTo c)

/-- The operation r on s ends in t: an effect of r, then one result. -/
def EndsIn (r : Request) (s t : State) : Prop := ∃ u x, Effect r s u ∧ t = u.respond x

/-- Replying in a state that an effect of r left. -/
theorem endsIn_of_reply {r : Request} {s u t : State} {x : Response} (he : Effect r s u) (h : reply x u = .next t) :
    EndsIn r s t := by
  cases h
  exact ⟨u, x, he, rfl⟩

theorem endsIn_of_answer {r : Request} {s t : State} {e : Except Err Response} (h : answer e s = .next t) :
    EndsIn r s t := by
  obtain ⟨x, hx⟩ := answer_next e s
  exact endsIn_of_reply (x := x) (.keep r s) (hx.symm.trans h)

theorem endsIn_of_opFeed {b : Span} {s t : State} (h : opFeed b s = .next t) : EndsIn (.feed b) s t := by
  unfold opFeed at h
  split at h
  next => exact endsIn_of_reply (.keep _ s) h
  next =>
    dsimp only at h
    split at h
    next => exact endsIn_of_reply (.keepTail b _ s) h
    next => exact endsIn_of_reply (.keepTail b _ s) h
    next => exact endsIn_of_reply (.stopFramer b _ s) h

theorem endsIn_of_linkRxI {p : Apdu} {ns nr : Nat} {a : Asdu} {s t : State} (hp : ∀ act, p.apci ≠ .u act)
    (h : linkRxI ns nr a s = .next t) : EndsIn (.linkRx p) s t := by
  unfold linkRxI at h
  split at h
  next => exact endsIn_of_reply (.keep _ s) h
  next =>
    split at h
    next => exact endsIn_of_reply (.accept p nr s hp) h
    next => exact endsIn_of_reply (.violation p s hp) h

theorem endsIn_of_linkRxS {p : Apdu} {nr : Nat} {s t : State} (hp : ∀ act, p.apci ≠ .u act)
    (h : linkRxS nr s = .next t) : EndsIn (.linkRx p) s t := by
  unfold linkRxS at h
  split at h
  next => exact endsIn_of_reply (.keep _ s) h
  next =>
    split at h
    next => exact endsIn_of_reply (.accept p nr s hp) h
    next => exact endsIn_of_reply (.violation p s hp) h

theorem endsIn_of_linkRxU {r : Request} {act : UAct} {s t : State} (h : linkRxU act s = .next t) : EndsIn r s t := by
  unfold linkRxU at h
  split at h
  next => exact endsIn_of_reply (.keep r s) h
  next => exact endsIn_of_reply (.keep r s) h

theorem endsIn_of_opLinkRx {p : Apdu} {s t : State} (h : opLinkRx p s = .next t) : EndsIn (.linkRx p) s t := by
  unfold opLinkRx at h
  split at h
  next hi _ => exact endsIn_of_linkRxI (fun _ => by simp [hi]) h
  next hs _ => exact endsIn_of_linkRxS (fun _ => by simp [hs]) h
  next => exact endsIn_of_linkRxU h
  next => cases h

theorem endsIn_of_linkTxI {a : Asdu} {s t : State} (h : linkTxI a s = .next t) : EndsIn (.linkTxI a) s t := by
  unfold linkTxI at h
  split at h
  next => exact endsIn_of_reply (.keep _ s) h
  next =>
    split at h
    next => exact endsIn_of_reply (.keep _ s) h
    next => exact endsIn_of_reply (.sendI a s) h

theorem endsIn_of_linkTxS {s t : State} (h : linkTxS s = .next t) : EndsIn .linkTxS s t := by
  unfold linkTxS at h
  split at h
  next => exact endsIn_of_reply (.keep _ s) h
  next =>
    split at h
    next => exact endsIn_of_reply (.keep _ s) h
    next =>
      split at h
      next hc => exact endsIn_of_reply (.sendS s hc) h
      next => exact endsIn_of_reply (.keep _ s) h

theorem endsIn_of_linkTxU {r : Request} {act : UAct} {s t : State} (h : linkTxU act s = .next t) : EndsIn r s t := by
  unfold linkTxU at h
  split at h
  next => exact endsIn_of_reply (.keep r s) h
  next => exact endsIn_of_answer h

theorem endsIn_of_opReset {c : Cfg} {s t : State} (h : opReset c s = .next t) : EndsIn (.reset c) s t := by
  unfold opReset at h
  split at h
  next hc => exact endsIn_of_reply (.reset c s hc) h
  next => cases h

/-- All that an operation can do: one of its effects, then its one result. -/
theorem endsIn_of_runOp {r : Request} {s t : State} (h : runOp r s = .next t) : EndsIn r s t := by
  cases r with
  | elemDec | elemEnc | asduDec | asduEnc | apciDec | apciEnc | frameDec | compose => exact endsIn_of_answer h
  | split buf => exact endsIn_of_reply (.keep _ s) h
  | feed b => exact endsIn_of_opFeed h
  | linkRx p => exact endsIn_of_opLinkRx h
  | linkTxI a => exact endsIn_of_linkTxI h
  | linkTxS => exact endsIn_of_linkTxS h
  | linkTxU act => exact endsIn_of_linkTxU h
  | transportClosed => exact endsIn_of_reply (.transportClosed s) h
  | reset c => exact endsIn_of_opReset h

theorem endsIn_of_runRequest {r : Request} {s t : State} (h : runRequest r s = .next t) : EndsIn r s t :=
  endsIn_of_runOp (runOp_of_runRequest_next h)

/-- No effect reaches the owner's list of pending operations. -/
theorem Effect.reqs_eq {r : Request} {s u : State} (h : Effect r s u) : u.reqs = s.reqs := by cases h <;> rfl

/-- No effect reaches the owner's list of results. -/
theorem Effect.resps_eq {r : Request} {s u : State} (h : Effect r s u) : u.resps = s.resps := by cases h <;> rfl

/-! ### The owner's lists along a run (R9, R61, R374) -/

/-- A step takes the oldest pending operation, if there is one, and gives it one result. -/
theorem step_lists {s t : State} (h : step s = .next t) :
    t.reqs = s.reqs.drop 1 ∧ ∃ rs, t.resps = s.resps ++ rs ∧ rs.length = (s.reqs.take 1).length := by
  cases hq : s.reqs with
  | nil =>
    rw [step_idle s hq] at h
    cases h
    exact ⟨hq, [], by simp⟩
  | cons r rest =>
    rw [step_pending s hq] at h
    obtain ⟨u, x, he, rfl⟩ := endsIn_of_runRequest h
    exact ⟨by simp [he.reqs_eq], [x], by simp [he.resps_eq]⟩

/-- A run of one step more is a step and the rest of the run. -/
theorem run_succ {M : Host.Core} {n : Nat} {s t : M.State} (h : M.run (n + 1) s = .next t) :
    ∃ u, M.step s = .next u ∧ M.run n u = .next t := by
  unfold Host.Core.run at h
  split at h
  next u hu => exact ⟨u, hu, h⟩
  next => cases h
  next => cases h

/-- Settles O57, by induction on the length of the run. -/
theorem oneResultPerOperation : Obligations.OneResultPerOperation := by
  intro n
  induction n with
  | zero =>
    intro s t h
    cases h
    exact ⟨rfl, [], by simp⟩
  | succ n ih =>
    intro s t h
    obtain ⟨u, hstep, hrun⟩ := run_succ h
    obtain ⟨hreqs, rs, hresps, hlen⟩ := step_lists hstep
    obtain ⟨hreqs', rs', hresps', hlen'⟩ := ih u t hrun
    refine ⟨?_, rs ++ rs', ?_, ?_⟩
    · rw [hreqs', hreqs, List.drop_drop, Nat.add_comm]
    · rw [hresps', hresps, List.append_assoc]
    · rw [List.length_append, hlen, hlen', hreqs]
      simp only [List.length_take, List.length_drop]
      omega

/-- Settles O45: each clause is the equation of the step in that case. -/
theorem stepRunsDecodedInstruction : Obligations.StepRunsDecodedInstruction := by
  intro s
  refine ⟨fun r rest i hq hd hw => ?_, fun r rest e hq hd => ?_, step_idle s⟩
  · exact (step_pending s hq).trans (runRequest_instr _ hd hw)
  · exact (step_pending s hq).trans (runRequest_noRow _ hd)

end Sys2Proof
end

section
/-! PROOFS of the statements about the state of the block (10_state R30 to R44): `RESET` and the reset state, which
fields an operation reads and writes, the two sticky conditions, and the invariant that every step keeps. -/
namespace Sys2Proof
open Sys2Proof.Machine Sys2Proof.Claims

/-! ### RESET (R43, R360) -/

/-- Settles O53: `RESET` selects no row, and the operation refuses exactly the records out of range. -/
theorem resetSetsEveryField : Obligations.ResetSetsEveryField := by
  intro s c
  have hrun : runRequest (.reset c) s = opReset c s := runRequest_noRow (e := .noRow) s rfl
  rw [hrun]
  exact ⟨fun hc => if_pos hc, fun hc => if_neg hc⟩

theorem profile104_ok : profile104.Ok := by decide

/-- Settles O54: the clause about `RESET` is O53 at the configuration of the initial state. -/
theorem initialStateIsResetState : Obligations.InitialStateIsResetState :=
  ⟨rfl, rfl, rfl, fun s => (resetSetsEveryField s profile104).1 profile104_ok⟩

/-- The block that `RESET` leaves has the invariant, whatever the configuration in range. -/
theorem inv_resetTo {c : Cfg} (hc : c.Ok) (s : State) : (s.resetTo c).Inv := ⟨hc, rfl, rfl, fun _ => rfl⟩

/-- Settles O56: the initial state is what `RESET` with the 104 profile leaves of itself. -/
theorem resetHasInvariant : Obligations.ResetHasInvariant := inv_resetTo profile104_ok State.reset

/-! ### The cases of FEED and of a closed link, each said once (R304, R305, R345) -/

theorem opFeed_of_stopped (b : Span) {s : State} (hf : s.framer = .stopped) :
    opFeed b s = reply (.err (.framerStopped s.ferr)) s := by
  simp [opFeed, hf, raise_eq]

/-- A buffer of whole frames leaves no tail. -/
theorem opFeed_of_split_ok {b : Span} {s : State} (hf : s.framer = .run) (hs : (split (s.rxbuf ++ b)).2 = .ok) :
    opFeed b s = reply (.frames (split (s.rxbuf ++ b)).1 .ok) (s.setTail []) := by
  simp [opFeed, hf, hs]

/-- An unfinished frame is kept as the tail. -/
theorem opFeed_of_split_m2 {b : Span} {s : State} {p : Nat} (hf : s.framer = .run)
    (hs : (split (s.rxbuf ++ b)).2 = .m2 p) :
    opFeed b s = reply (.frames (split (s.rxbuf ++ b)).1 (.incomplete ((s.rxbuf ++ b).length - p)))
      (s.setTail ((s.rxbuf ++ b).drop p)) := by
  simp [opFeed, hf, hs]

/-- A wrong delimiter stops the framer. -/
theorem opFeed_of_split_m1 {b : Span} {s : State} {p : Nat} (hf : s.framer = .run)
    (hs : (split (s.rxbuf ++ b)).2 = .m1 p) :
    opFeed b s = reply (.frames (split (s.rxbuf ++ b)).1 (.error (.m1 p))) (s.stopFramer (.m1 p)) := by
  simp [opFeed, hf, hs]

section
variable {s : State} (hl : s.link = .closed)
include hl

theorem linkRxI_of_closed (ns nr : Nat) (a : Asdu) : linkRxI ns nr a s = reply (.err .connectionClosed) s := by
  simp [linkRxI, hl, raise_eq]

theorem linkRxS_of_closed (nr : Nat) : linkRxS nr s = reply (.err .connectionClosed) s := by
  simp [linkRxS, hl, raise_eq]

theorem linkRxU_of_closed (act : UAct) : linkRxU act s = reply (.err .connectionClosed) s := by
  simp [linkRxU, hl, raise_eq]

theorem linkTxI_of_closed (a : Asdu) : linkTxI a s = reply (.err .connectionClosed) s := by
  simp [linkTxI, hl, raise_eq]

theorem linkTxS_of_closed : linkTxS s = reply (.err .connectionClosed) s := by
  simp [linkTxS, hl, raise_eq]

theorem linkTxU_of_closed (act : UAct) : linkTxU act s = reply (.err .connectionClosed) s := by
  simp [linkTxU, hl, raise_eq]

/-- An APDU record is refused with ConnectionClosed; what is no APDU record gets no answer. -/
theorem opLinkRx_of_closed {p : Apdu} {t : State} (h : opLinkRx p s = .next t) :
    reply (.err .connectionClosed) s = .next t := by
  unfold opLinkRx at h
  split at h
  next => rwa [linkRxI_of_closed hl] at h
  next => rwa [linkRxS_of_closed hl] at h
  next => rwa [linkRxU_of_closed hl] at h
  next => cases h

/-- On a closed link every link operation that answers raises ConnectionClosed and does nothing else (R345). -/
theorem runOp_of_closed {r : Request} {t : State} (hr : isLinkOp r = true) (h : runOp r s = .next t) :
    reply (.err .connectionClosed) s = .next t := by
  cases r with
  | linkRx p => exact opLinkRx_of_closed hl h
  | linkTxI a => rwa [← linkTxI_of_closed hl a]
  | linkTxS => rwa [← linkTxS_of_closed hl]
  | linkTxU act => rwa [← linkTxU_of_closed hl act]
  | _ => cases hr

end

/-! ### The invariant (R35, R36, R37) -/

/-- The invariant speaks of the configuration and the framer's three fields only. -/
theorem inv_congr {s t : State} (h : s.Inv) (hcfg : t.cfg = s.cfg) (hrxbuf : t.rxbuf = s.rxbuf)
    (hframer : t.framer = s.framer) (hferr : t.ferr = s.ferr) : t.Inv where
  cfg_ok := hcfg ▸ h.cfg_ok
  tail_ok := hrxbuf ▸ h.tail_ok
  ferr_ok := by rw [hframer, hferr]; exact h.ferr_ok
  stopped_empty := by rw [hframer, hrxbuf]; exact h.stopped_empty

theorem inv_respond {s : State} (h : s.Inv) (x : Response) : (s.respond x).Inv := inv_congr h rfl rfl rfl rfl

theorem inv_setReqs {s : State} (h : s.Inv) (rs : List Request) : (s.setReqs rs).Inv := inv_congr h rfl rfl rfl rfl

theorem inv_setTail {s : State} {S : Span} (h : s.Inv) (hf : s.framer = .run) (hS : tailOk S = true) :
    (s.setTail S).Inv where
  cfg_ok := h.cfg_ok
  tail_ok := hS
  ferr_ok := h.ferr_ok
  stopped_empty := fun hstop => by rw [State.setTail_framer, hf] at hstop; cases hstop

theorem inv_stopFramer {s : State} (h : s.Inv) (p : Nat) : (s.stopFramer (.m1 p)).Inv :=
  ⟨h.cfg_ok, rfl, rfl, fun _ => rfl⟩

/-- Where the split loop ends on an unfinished frame, what stands from there on is a tail that FEED may keep. -/
theorem tailOk_drop_of_splitFrom {p q : Nat} {S : Span} (h : (splitFrom p S).2 = .m2 q) :
    p ≤ q ∧ tailOk (S.drop (q - p)) = true := by
  induction hn : S.length using Nat.strong_induction_on generalizing p S with
  | _ n ih =>
    subst hn
    match S with
    | [] => cases h
    | b :: rest =>
      by_cases hb : b = pStart
      case neg => rw [splitFrom_badStart p rest hb] at h; cases h
      subst hb
      match rest with
      | [] =>
        rw [splitFrom_lone] at h
        cases h
        exact ⟨le_rfl, by simp [tailOk]⟩
      | L :: rest =>
        by_cases hfit : L.toNat ≤ rest.length
        case neg =>
          rw [splitFrom_short p L rest (by omega)] at h
          cases h
          exact ⟨le_rfl, by simp [tailOk]; omega⟩
        rw [splitFrom_frame p L rest hfit] at h
        obtain ⟨hle, htail⟩ := ih _ (by simp only [List.length_drop, List.length_cons]; omega) h rfl
        have hskip : q - p = L.toNat + (q - (p + (L.toNat + 2))) + 2 := by omega
        refine ⟨by omega, ?_⟩
        rwa [hskip, List.drop_succ_cons, List.drop_succ_cons, ← List.drop_drop]

theorem inv_of_opFeed {b : Span} {s t : State} (hi : s.Inv) (h : opFeed b s = .next t) : t.Inv := by
  cases hf : s.framer with
  | stopped =>
    rw [opFeed_of_stopped b hf] at h
    cases h
    exact inv_respond hi _
  | run =>
    cases hs : (split (s.rxbuf ++ b)).2 with
    | ok =>
      rw [opFeed_of_split_ok hf hs] at h
      cases h
      exact inv_respond (inv_setTail hi hf rfl) _
    | m2 p =>
      rw [opFeed_of_split_m2 hf hs] at h
      cases h
      exact inv_respond (inv_setTail hi hf (tailOk_drop_of_splitFrom hs).2) _
    | m1 p =>
      rw [opFeed_of_split_m1 hf hs] at h
      cases h
      exact inv_respond (inv_stopFramer hi p) _

/-- Outside FEED an effect leaves the framer's fields and the configuration as they are, or resets them all. -/
theorem inv_of_effect {r : Request} {s u : State} (hr : ∀ b, r ≠ .feed b) (hi : s.Inv) (he : Effect r s u) : u.Inv := by
  cases he with
  | keep => exact hi
  | keepTail b | stopFramer b => exact absurd rfl (hr b)
  | accept | violation | sendI | sendS | transportClosed => exact inv_congr hi rfl rfl rfl rfl
  | reset c _ hc => exact inv_resetTo hc s

theorem inv_of_runRequest {r : Request} {s t : State} (hi : s.Inv) (h : runRequest r s = .next t) : t.Inv := by
  by_cases hr : ∃ b, r = .feed b
  case pos =>
    obtain ⟨b, rfl⟩ := hr
    exact inv_of_opFeed hi (runOp_of_runRequest_next h)
  case neg =>
    obtain ⟨u, x, he, rfl⟩ := endsIn_of_runRequest h
    exact inv_respond (inv_of_effect (fun b hb => hr ⟨b, hb⟩) hi he) x

/-- Settles O55: the idle step keeps the state, and any other step is an operation, which keeps the invariant. -/
theorem stepKeepsInvariant : Obligations.StepKeepsInvariant := by
  intro s t hi h
  cases hq : s.reqs with
  | nil =>
    rw [step_idle s hq] at h
    cases h
    exact hi
  | cons r rest =>
    rw [step_pending s hq] at h
    exact inv_of_runRequest (inv_setReqs hi rest) h

/-! ### The sticky conditions (R34, R305, R354, R362) -/

/-- What holds between a state and every later one before the next `RESET`. -/
structure Sticky (s t : State) : Prop where
  closed : s.link = .closed → t.link = .closed ∧ t.vs = s.vs ∧ t.vr = s.vr ∧ t.lastAck = s.lastAck
  stopped : s.framer = .stopped → t.framer = .stopped ∧ t.ferr = s.ferr ∧ t.rxbuf = s.rxbuf
  cfg : t.cfg = s.cfg

theorem Sticky.refl (s : State) : Sticky s s :=
  ⟨fun hl => ⟨hl, rfl, rfl, rfl⟩, fun hf => ⟨hf, rfl, rfl⟩, rfl⟩

theorem Sticky.trans {s t u : State} (hst : Sticky s t) (htu : Sticky t u) : Sticky s u where
  closed hl := by
    obtain ⟨hl', hvs, hvr, hack⟩ := hst.closed hl
    obtain ⟨hl'', hvs', hvr', hack'⟩ := htu.closed hl'
    exact ⟨hl'', hvs'.trans hvs, hvr'.trans hvr, hack'.trans hack⟩
  stopped hf := by
    obtain ⟨hf', hferr, hrxbuf⟩ := hst.stopped hf
    obtain ⟨hf'', hferr', hrxbuf'⟩ := htu.stopped hf'
    exact ⟨hf'', hferr'.trans hferr, hrxbuf'.trans hrxbuf⟩
  cfg := htu.cfg.trans hst.cfg

/-- An operation other than a link operation and `RESET` writes no counter, and the link only to close it. -/
theorem Effect.closed_kept {r : Request} {s u : State} (he : Effect r s u) (hlink : isLinkOp r = false)
    (hreset : isReset r = false) (hl : s.link = .closed) :
    u.link = .closed ∧ u.vs = s.vs ∧ u.vr = s.vr ∧ u.lastAck = s.lastAck := by
  cases he with
  | keep | keepTail | stopFramer => exact ⟨hl, rfl, rfl, rfl⟩
  | transportClosed => exact ⟨rfl, rfl, rfl, rfl⟩
  | accept | violation | sendI | sendS => cases hlink
  | reset => cases hreset

/-- An operation other than `FEED` and `RESET` leaves the framer as it is. -/
theorem Effect.framer_kept {r : Request} {s u : State} (he : Effect r s u) (hfeed : ∀ b, r ≠ .feed b)
    (hreset : isReset r = false) : u.framer = s.framer ∧ u.ferr = s.ferr ∧ u.rxbuf = s.rxbuf := by
  cases he with
  | keepTail b | stopFramer b => exact absurd rfl (hfeed b)
  | reset => cases hreset
  | _ => exact ⟨rfl, rfl, rfl⟩

/-- The configuration is written by `RESET` alone (R362). -/
theorem Effect.cfg_kept {r : Request} {s u : State} (he : Effect r s u) (hreset : isReset r = false) :
    u.cfg = s.cfg := by
  cases he with
  | reset => cases hreset
  | _ => rfl

theorem sticky_of_runRequest {r : Request} {s t : State} (hreset : isReset r = false) (h : runRequest r s = .next t) :
    Sticky s t := by
  have hop : runOp r s = .next t := runOp_of_runRequest_next h
  obtain ⟨u, x, he, hu⟩ := endsIn_of_runOp hop
  refine ⟨fun hl => ?_, fun hf => ?_, ?_⟩
  · cases hlink : isLinkOp r with
    | true =>
      cases runOp_of_closed hl hlink hop
      exact ⟨hl, rfl, rfl, rfl⟩
    | false =>
      subst hu
      exact he.closed_kept hlink hreset hl
  · by_cases hfeed : ∃ b, r = .feed b
    case pos =>
      obtain ⟨b, rfl⟩ := hfeed
      cases (opFeed_of_stopped b hf).symm.trans hop
      exact ⟨hf, rfl, rfl⟩
    case neg =>
      obtain ⟨hframer, hrest⟩ := he.framer_kept (fun b hb => hfeed ⟨b, hb⟩) hreset
      subst hu
      exact ⟨hframer.trans hf, hrest⟩
  · subst hu
    exact he.cfg_kept hreset

theorem sticky_of_step {s t : State} (hreset : ∀ r ∈ s.reqs.take 1, isReset r = false) (h : step s = .next t) :
    Sticky s t := by
  cases hq : s.reqs with
  | nil =>
    rw [step_idle s hq] at h
    cases h
    exact .refl s
  | cons r rest =>
    rw [step_pending s hq] at h
    obtain ⟨hclosed, hstopped, hcfg⟩ := sticky_of_runRequest (hreset r (by simp [hq])) h
    exact ⟨hclosed, hstopped, hcfg⟩

/-- Settles O52, by induction on the length of the run. -/
theorem stickyUntilReset : Obligations.StickyUntilReset := by
  suffices hrun : ∀ (n : Nat) (s t : State), (∀ r ∈ s.reqs.take n, isReset r = false) →
      Host.Core.run core n s = .next t → Sticky s t by
    intro n s t hreset h
    obtain ⟨hclosed, hstopped, hcfg⟩ := hrun n s t hreset h
    exact ⟨hclosed, hstopped, hcfg⟩
  intro n
  induction n with
  | zero =>
    intro s t _ h
    cases h
    exact .refl s
  | succ n ih =>
    intro s t hreset h
    obtain ⟨u, hstep, hrest⟩ := run_succ h
    obtain ⟨hreqs, -⟩ := step_lists hstep
    have hfirst : Sticky s u :=
      sticky_of_step (fun r hr => hreset r (List.take_subset_take_left _ (by omega) hr)) hstep
    refine hfirst.trans (ih u t (fun r hr => hreset r ?_) hrest)
    rw [hreqs, List.take_drop, Nat.add_comm] at hr
    exact List.mem_of_mem_drop hr

/-! ### What an operation reads, and that it writes each field from that field alone (R42) -/

/-- The two states agree on the fields that R42 marks r for the operation. -/
def AgreeOnReads : Request → State → State → Prop
  | .feed _, s, t => s.rxbuf = t.rxbuf ∧ s.framer = t.framer ∧ s.ferr = t.ferr ∧ s.cfg = t.cfg
  | .linkRx ⟨.i _ _, _⟩, s, t => s.vs = t.vs ∧ s.vr = t.vr ∧ s.link = t.link
  | .linkRx ⟨.s _, _⟩, s, t => s.vs = t.vs ∧ s.link = t.link
  | .linkRx ⟨.u _, _⟩, s, t => s.link = t.link
  | .linkTxI _, s, t | .linkTxS, s, t => s.vs = t.vs ∧ s.vr = t.vr ∧ s.link = t.link ∧ s.cfg = t.cfg
  | .linkTxU _, s, t => s.link = t.link ∧ s.cfg = t.cfg
  | .transportClosed, _, _ | .reset _, _, _ => True
  | _, s, t => s.cfg = t.cfg

theorem agreeOnReads_of_toBlock_eq (r : Request) {s t : State} (h : s.toBlock = t.toBlock) : AgreeOnReads r s t := by
  unfold AgreeOnReads
  split <;> simp [h]

/-- The update f makes each field's new value from its old value alone, and leaves the owner's lists as they are. -/
structure Fieldwise (f : State → State) : Prop where
  vs : ∀ {s t : State}, s.vs = t.vs → (f s).vs = (f t).vs
  vr : ∀ {s t : State}, s.vr = t.vr → (f s).vr = (f t).vr
  lastAck : ∀ {s t : State}, s.lastAck = t.lastAck → (f s).lastAck = (f t).lastAck
  link : ∀ {s t : State}, s.link = t.link → (f s).link = (f t).link
  rxbuf : ∀ {s t : State}, s.rxbuf = t.rxbuf → (f s).rxbuf = (f t).rxbuf
  framer : ∀ {s t : State}, s.framer = t.framer → (f s).framer = (f t).framer
  ferr : ∀ {s t : State}, s.ferr = t.ferr → (f s).ferr = (f t).ferr
  cfg : ∀ {s t : State}, s.cfg = t.cfg → (f s).cfg = (f t).cfg
  reqs : ∀ s : State, (f s).reqs = s.reqs
  resps : ∀ s : State, (f s).resps = s.resps

theorem fieldwise_id : Fieldwise fun s => s := by
  constructor <;> simp

theorem fieldwise_setTail (S : Span) : Fieldwise (·.setTail S) := by
  constructor <;> simp

theorem fieldwise_stopFramer (m : Malformed) : Fieldwise (·.stopFramer m) := by
  constructor <;> simp

theorem fieldwise_accept (nr : Nat) : Fieldwise (·.accept nr) := by
  constructor <;> simp

theorem fieldwise_close : Fieldwise State.close := by
  constructor <;> simp

theorem fieldwise_advanceVs : Fieldwise State.advanceVs := by
  constructor <;> simp

theorem fieldwise_resetTo (c : Cfg) : Fieldwise (·.resetTo c) := by
  constructor <;> simp

/-- In all states that satisfy P the meaning g answers with one result and one fieldwise update, or refuses in all. -/
def AnswersAlike (g : State → Result) (P : State → Prop) : Prop :=
  (∃ (f : State → State) (x : Response), Fieldwise f ∧ ∀ s, P s → g s = reply x (f s)) ∨
    ∀ s, P s → g s = .refused .illTypedOperand

theorem answersAlike_of_reply {g : State → Result} {P : State → Prop} {f : State → State} (x : Response)
    (hf : Fieldwise f) (h : ∀ s, P s → g s = reply x (f s)) : AnswersAlike g P := .inl ⟨f, x, hf, h⟩

theorem AnswersAlike.mono {g : State → Result} {P Q : State → Prop} (h : AnswersAlike g P) (hQ : ∀ s, Q s → P s) :
    AnswersAlike g Q :=
  h.imp (fun ⟨f, x, hf, hx⟩ => ⟨f, x, hf, fun s hs => hx s (hQ s hs)⟩) fun hr s hs => hr s (hQ s hs)

theorem opFeed_answersAlike (b S : Span) (fr : Framer) (e : Option Malformed) :
    AnswersAlike (opFeed b) fun s => s.rxbuf = S ∧ s.framer = fr ∧ s.ferr = e := by
  cases fr with
  | stopped =>
    refine answersAlike_of_reply (.err (.framerStopped e)) fieldwise_id ?_
    rintro s ⟨-, hfr, rfl⟩
    exact opFeed_of_stopped b hfr
  | run =>
    cases hs : (split (S ++ b)).2 with
    | ok =>
      refine answersAlike_of_reply (.frames (split (S ++ b)).1 .ok) (fieldwise_setTail []) ?_
      rintro s ⟨rfl, hfr, -⟩
      exact opFeed_of_split_ok hfr hs
    | m2 p =>
      refine answersAlike_of_reply (.frames (split (S ++ b)).1 (.incomplete ((S ++ b).length - p)))
        (fieldwise_setTail ((S ++ b).drop p)) ?_
      rintro s ⟨rfl, hfr, -⟩
      exact opFeed_of_split_m2 hfr hs
    | m1 p =>
      refine answersAlike_of_reply (.frames (split (S ++ b)).1 (.error (.m1 p))) (fieldwise_stopFramer (.m1 p)) ?_
      rintro s ⟨rfl, hfr, -⟩
      exact opFeed_of_split_m1 hfr hs

theorem linkRxI_answersAlike (ns nr : Nat) (a : Asdu) (vs vr : Seq15) (l : Link) :
    AnswersAlike (linkRxI ns nr a) fun s => s.vs = vs ∧ s.vr = vr ∧ s.link = l := by
  cases l with
  | closed => exact answersAlike_of_reply _ fieldwise_id fun s ⟨_, _, hl⟩ => linkRxI_of_closed hl ns nr a
  | connected =>
    by_cases hseq : nr = vs.toNat ∧ ns = vr.toNat
    case pos =>
      refine answersAlike_of_reply (.verdict (.acceptI a)) (fieldwise_accept nr) ?_
      rintro s ⟨rfl, rfl, hl⟩
      simp [linkRxI, hl, hseq]
    case neg =>
      refine answersAlike_of_reply (.err (.sequenceViolation (.s1 vs.toNat vr.toNat nr ns))) fieldwise_close ?_
      rintro s ⟨rfl, rfl, hl⟩
      simp [linkRxI, hl, hseq, raise_eq]

theorem linkRxS_answersAlike (nr : Nat) (vs : Seq15) (l : Link) :
    AnswersAlike (linkRxS nr) fun s => s.vs = vs ∧ s.link = l := by
  cases l with
  | closed => exact answersAlike_of_reply _ fieldwise_id fun s ⟨_, hl⟩ => linkRxS_of_closed hl nr
  | connected =>
    by_cases hseq : nr = vs.toNat
    case pos =>
      refine answersAlike_of_reply (.verdict .acceptS) (fieldwise_accept nr) ?_
      rintro s ⟨rfl, hl⟩
      simp [linkRxS, hl, hseq]
    case neg =>
      refine answersAlike_of_reply (.err (.sequenceViolation (.s2 vs.toNat nr))) fieldwise_close ?_
      rintro s ⟨rfl, hl⟩
      simp [linkRxS, hl, hseq, raise_eq]

theorem linkRxU_answersAlike (act : UAct) (l : Link) : AnswersAlike (linkRxU act) fun s => s.link = l := by
  cases l with
  | closed => exact answersAlike_of_reply _ fieldwise_id fun s hl => linkRxU_of_closed hl act
  | connected => exact answersAlike_of_reply (.verdict (.control act)) fieldwise_id fun s hl => by simp [linkRxU, hl]

theorem linkTxI_answersAlike (a : Asdu) (vs vr : Seq15) (l : Link) (c : Cfg) :
    AnswersAlike (linkTxI a) fun s => s.vs = vs ∧ s.vr = vr ∧ s.link = l ∧ s.cfg = c := by
  cases l with
  | closed => exact answersAlike_of_reply _ fieldwise_id fun s ⟨_, _, hl, _⟩ => linkTxI_of_closed hl a
  | connected =>
    cases hframe : compose c { apci := .i vs.toNat vr.toNat, asdu := some a } with
    | error e =>
      refine answersAlike_of_reply (.err e) fieldwise_id ?_
      rintro s ⟨rfl, rfl, hl, rfl⟩
      simp [linkTxI, hl, hframe, raise_eq]
    | ok f =>
      refine answersAlike_of_reply (.bytes f) fieldwise_advanceVs ?_
      rintro s ⟨rfl, rfl, hl, rfl⟩
      simp [linkTxI, hl, hframe]

theorem linkTxS_answersAlike (vr : Seq15) (l : Link) (c : Cfg) :
    AnswersAlike linkTxS fun s => s.vr = vr ∧ s.link = l ∧ s.cfg = c := by
  cases l with
  | closed => exact answersAlike_of_reply _ fieldwise_id fun s ⟨_, hl, _⟩ => linkTxS_of_closed hl
  | connected =>
    cases hframe : compose c { apci := .s vr.toNat, asdu := none } with
    | error e =>
      refine answersAlike_of_reply (.err e) fieldwise_id ?_
      rintro s ⟨rfl, hl, rfl⟩
      simp [linkTxS, hl, hframe, raise_eq]
    | ok f =>
      cases hadv : c.sTxAdvancesVs with
      | false =>
        refine answersAlike_of_reply (.bytes f) fieldwise_id ?_
        rintro s ⟨rfl, hl, rfl⟩
        simp [linkTxS, hl, hframe, hadv]
      | true =>
        refine answersAlike_of_reply (.bytes f) fieldwise_advanceVs ?_
        rintro s ⟨rfl, hl, rfl⟩
        simp [linkTxS, hl, hframe, hadv]

theorem linkTxU_answersAlike (act : UAct) (l : Link) (c : Cfg) :
    AnswersAlike (linkTxU act) fun s => s.link = l ∧ s.cfg = c := by
  cases l with
  | closed => exact answersAlike_of_reply _ fieldwise_id fun s ⟨hl, _⟩ => linkTxU_of_closed hl act
  | connected =>
    obtain ⟨x, hx⟩ := answer_of_cfg (fun c => (compose c { apci := .u act, asdu := none }).map .bytes) c
    refine answersAlike_of_reply x fieldwise_id ?_
    rintro s ⟨hl, hc⟩
    simpa [linkTxU, hl] using hx s hc

theorem opLinkRx_answersAlike (p : Apdu) (s₀ : State) :
    AnswersAlike (opLinkRx p) (AgreeOnReads (.linkRx p) · s₀) := by
  match p with
  | ⟨.i ns nr, some a⟩ => exact linkRxI_answersAlike ns nr a s₀.vs s₀.vr s₀.link
  | ⟨.s nr, none⟩ => exact linkRxS_answersAlike nr s₀.vs s₀.link
  | ⟨.u act, none⟩ => exact linkRxU_answersAlike act s₀.link
  | ⟨.i _ _, none⟩ | ⟨.s _, some _⟩ | ⟨.u _, some _⟩ => exact .inr fun _ _ => rfl

theorem opReset_answersAlike (c : Cfg) (P : State → Prop) : AnswersAlike (opReset c) P := by
  by_cases hc : c.Ok
  case pos => exact answersAlike_of_reply .done (fieldwise_resetTo c) fun _ _ => if_pos hc
  case neg => exact .inr fun _ _ => if_neg hc

theorem stateless_answersAlike {r : Request} (h : isStateless r = true) (c : Cfg) :
    AnswersAlike (runOp r) fun s => s.cfg = c := by
  obtain ⟨x, hx⟩ := runOp_of_isStateless h c
  exact answersAlike_of_reply x fieldwise_id hx

/-- An operation answers alike in all states that agree with s₀ on what it reads. -/
theorem runOp_answersAlike (r : Request) (s₀ : State) : AnswersAlike (runOp r) (AgreeOnReads r · s₀) := by
  cases r with
  | feed b =>
    exact (opFeed_answersAlike b s₀.rxbuf s₀.framer s₀.ferr).mono fun s ⟨hS, hfr, he, _⟩ => ⟨hS, hfr, he⟩
  | linkRx p => exact opLinkRx_answersAlike p s₀
  | linkTxI a => exact linkTxI_answersAlike a s₀.vs s₀.vr s₀.link s₀.cfg
  | linkTxS => exact (linkTxS_answersAlike s₀.vr s₀.link s₀.cfg).mono fun s ⟨_, hrest⟩ => hrest
  | linkTxU act => exact linkTxU_answersAlike act s₀.link s₀.cfg
  | transportClosed => exact answersAlike_of_reply .done fieldwise_close fun _ _ => rfl
  | reset c => exact opReset_answersAlike c _
  | _ => exact stateless_answersAlike rfl s₀.cfg

/-- The check of a request's operands looks at no state: a request is its operation in all states or in none. -/
theorem runRequest_uniform (r : Request) :
    (∀ s, runRequest r s = runOp r s) ∨ ∀ s, runRequest r s = .refused .illTypedOperand := by
  cases hd : decode r with
  | error e => exact .inl fun s => runRequest_noRow s hd
  | ok i =>
    cases hw : i.wellFormed with
    | true => exact .inl fun s => (runRequest_instr s hd hw).trans (exec_eq_runOp (selects_of_decode hd) s)
    | false => exact .inr fun s => runRequest_illTyped s hd hw

theorem runRequest_answersAlike (r : Request) (s₀ : State) : AnswersAlike (runRequest r) (AgreeOnReads r · s₀) := by
  obtain hrun | hrefused := runRequest_uniform r
  · rw [funext hrun]
    exact runOp_answersAlike r s₀
  · exact .inr fun s _ => hrefused s

/-! ### The block alone (R30, R374) -/

/-- The block is its eight fields. -/
theorem block_ext {b b' : Block} (hvs : b.vs = b'.vs) (hvr : b.vr = b'.vr) (hack : b.lastAck = b'.lastAck)
    (hlink : b.link = b'.link) (hrxbuf : b.rxbuf = b'.rxbuf) (hframer : b.framer = b'.framer)
    (hferr : b.ferr = b'.ferr) (hcfg : b.cfg = b'.cfg) : b = b' := by
  cases b
  congr

theorem Fieldwise.toBlock {f : State → State} (hf : Fieldwise f) {s t : State} (h : s.toBlock = t.toBlock) :
    (f s).toBlock = (f t).toBlock :=
  block_ext (hf.vs (congrArg Block.vs h)) (hf.vr (congrArg Block.vr h)) (hf.lastAck (congrArg Block.lastAck h))
    (hf.link (congrArg Block.link h)) (hf.rxbuf (congrArg Block.rxbuf h)) (hf.framer (congrArg Block.framer h))
    (hf.ferr (congrArg Block.ferr h)) (hf.cfg (congrArg Block.cfg h))

/-- Settles O59: the answer in the state that holds the block b and empty lists is the answer in all that hold b. -/
theorem operationsReadBlockAlone : Obligations.OperationsReadBlockAlone := by
  intro r b
  obtain ⟨f, x, hf, hx⟩ | hrefused := runRequest_answersAlike r ⟨b, [], []⟩
  · refine .inl ⟨(f ⟨b, [], []⟩).toBlock, x, fun s hs => ?_⟩
    have hblock : (f s).toBlock = (f ⟨b, [], []⟩).toBlock := hf.toBlock hs
    rw [hx s (agreeOnReads_of_toBlock_eq r hs), reply_eq, ← hblock, ← hf.reqs s, ← hf.resps s]
  · exact .inr fun s hs => hrefused s (agreeOnReads_of_toBlock_eq r hs)

/-! ### The access table (R42): writes from the effects, reads from the answers given alike -/

section
variable {r : Request} {s u : State}

theorem Effect.writes_vs (he : Effect r s u) (h : u.vs ≠ s.vs) :
    (∃ a, r = .linkTxI a) ∨ (r = .linkTxS ∧ s.cfg.sTxAdvancesVs = true) ∨ isReset r = true := by
  cases he with
  | sendI a => exact .inl ⟨a, rfl⟩
  | sendS _ hadv => exact .inr (.inl ⟨rfl, hadv⟩)
  | reset => exact .inr (.inr rfl)
  | _ => exact absurd rfl h

theorem Effect.writes_vr_lastAck (he : Effect r s u) (h : u.vr ≠ s.vr ∨ u.lastAck ≠ s.lastAck) :
    (∃ p, r = .linkRx p ∧ ∀ act, p.apci ≠ .u act) ∨ isReset r = true := by
  cases he with
  | accept p _ _ hp => exact .inl ⟨p, rfl, hp⟩
  | reset => exact .inr rfl
  | _ => exact absurd h (by simp)

theorem Effect.writes_link (he : Effect r s u) (h : u.link ≠ s.link) :
    (∃ p, r = .linkRx p ∧ ∀ act, p.apci ≠ .u act) ∨ r = .transportClosed ∨ isReset r = true := by
  cases he with
  | violation p _ hp => exact .inl ⟨p, rfl, hp⟩
  | transportClosed => exact .inr (.inl rfl)
  | reset => exact .inr (.inr rfl)
  | _ => exact absurd rfl h

theorem Effect.writes_framer (he : Effect r s u) (h : u.rxbuf ≠ s.rxbuf ∨ u.framer ≠ s.framer ∨ u.ferr ≠ s.ferr) :
    (∃ b, r = .feed b) ∨ isReset r = true := by
  cases he with
  | keepTail b | stopFramer b => exact .inl ⟨b, rfl⟩
  | reset => exact .inr rfl
  | _ => exact absurd h (by simp)

theorem Effect.writes_cfg (he : Effect r s u) (h : u.cfg ≠ s.cfg) : isReset r = true := by
  by_contra hreset
  exact h (he.cfg_kept (Bool.eq_false_iff.2 hreset))

end

theorem agreeOnReads_linkRx {p : Apdu} {s s' : State} (hvs : s.vs = s'.vs) (hl : s.link = s'.link)
    (hvr : ∀ ns nr, p.apci = .i ns nr → s.vr = s'.vr) : AgreeOnReads (.linkRx p) s s' := by
  obtain ⟨apci, a⟩ := p
  cases apci with
  | i ns nr => exact ⟨hvs, hvr ns nr rfl, hl⟩
  | s nr => exact ⟨hvs, hl⟩
  | u act => exact hl

theorem agreeOnReads_linkTx {r : Request} {s s' : State} (hr : (∃ a, r = .linkTxI a) ∨ r = .linkTxS)
    (hvs : s.vs = s'.vs) (hvr : s.vr = s'.vr) (hl : s.link = s'.link) (hc : s.cfg = s'.cfg) : AgreeOnReads r s s' := by
  obtain ⟨a, rfl⟩ | rfl := hr
  · exact ⟨hvs, hvr, hl, hc⟩
  · exact ⟨hvs, hvr, hl, hc⟩

theorem agreeOnReads_stateless {r : Request} {s s' : State} (hr : isStateless r = true) (hc : s.cfg = s'.cfg) :
    AgreeOnReads r s s' := by
  cases r with
  | feed | linkRx | linkTxI | linkTxS | linkTxU | transportClosed | reset => cases hr
  | _ => exact hc

/-- Two states that agree on what the operation reads go through one update and give one result. -/
theorem next_of_agreeOnReads {r : Request} {s s' t t' : State} (hs : AgreeOnReads r s s')
    (h : runRequest r s = .next t) (h' : runRequest r s' = .next t') :
    ∃ (f : State → State) (x : Response), Fieldwise f ∧ t = (f s).respond x ∧ t' = (f s').respond x := by
  obtain ⟨f, x, hf, hx⟩ | hrefused := runRequest_answersAlike r s'
  · rw [hx s hs] at h
    rw [hx s' (agreeOnReads_of_toBlock_eq r rfl)] at h'
    cases h
    cases h'
    exact ⟨f, x, hf, rfl, rfl⟩
  · rw [hrefused s hs] at h
    cases h

theorem same_result {r : Request} {s s' t t' : State} (hs : AgreeOnReads r s s')
    (h : runRequest r s = .next t) (h' : runRequest r s' = .next t') :
    t.resps.drop s.resps.length = t'.resps.drop s'.resps.length := by
  obtain ⟨f, x, hf, rfl, rfl⟩ := next_of_agreeOnReads hs h h'
  simp [hf.resps]

/-- Settles O50: what an operation writes is read off its effects, what it reads off the answers it gives alike. -/
theorem accessTable : Obligations.AccessTable := by
  refine ⟨fun r s t h => ?writes, fun b s s' t t' hrxbuf hframer hferr hc h h' => ?feed,
    fun p s s' t t' hvs hl hvr h h' => ?linkRx, fun act a s s' t t' hl h h' => ?linkRxU,
    fun r s s' t t' hr hvs hvr hl hc h h' => ?linkTx, fun act s s' t t' hl hc h h' => ?linkTxU,
    fun r s s' t t' hr hc h h' => ?stateless⟩
  case writes =>
    obtain ⟨u, x, he, rfl⟩ := endsIn_of_runRequest h
    exact ⟨he.writes_vs, he.writes_vr_lastAck, he.writes_link, he.writes_framer, he.writes_cfg⟩
  case feed =>
    have hs : AgreeOnReads (.feed b) s s' := ⟨hrxbuf, hframer, hferr, hc⟩
    have hresult := same_result hs h h'
    obtain ⟨f, x, hf, rfl, rfl⟩ := next_of_agreeOnReads hs h h'
    exact ⟨hf.rxbuf hrxbuf, hf.framer hframer, hf.ferr hferr, hresult⟩
  case linkRx =>
    have hs := agreeOnReads_linkRx hvs hl hvr
    have hresult := same_result hs h h'
    obtain ⟨f, x, hf, rfl, rfl⟩ := next_of_agreeOnReads hs h h'
    exact ⟨hf.link hl, fun hvr hack => ⟨hf.vr hvr, hf.lastAck hack⟩, hresult⟩
  case linkRxU => exact same_result (r := .linkRx { apci := .u act, asdu := a }) hl h h'
  case linkTx =>
    have hs := agreeOnReads_linkTx hr hvs hvr hl hc
    have hresult := same_result hs h h'
    obtain ⟨f, x, hf, rfl, rfl⟩ := next_of_agreeOnReads hs h h'
    exact ⟨hf.vs hvs, hresult⟩
  case linkTxU => exact same_result (r := .linkTxU act) ⟨hl, hc⟩ h h'
  case stateless => exact same_result (agreeOnReads_stateless hr hc) h h'

end Sys2Proof
end


section
/-! PROOFS of the statements about the encoding of operations (30_encoding R72 to R76, R84, R94): an instruction is what
the decoder reads from its encoding exactly because its encoding selects its row. -/
namespace Sys2Proof
open Sys2Proof.Machine Sys2Proof.Claims

/-! ### What selects a row decodes to it -/

/-- The record and the bytes of a supported type's operation select that type's row (R84). -/
theorem decode_encodeType {t : Byte} {mk : TypeOp → Instr} (hm : typeRow t = some mk) (op : TypeOp) :
    decode (encodeType t op) = .ok (mk op) := by
  cases op <;> simp [encodeType, decode, onType, hm]

theorem decode_encodeI {op : IOp} (hs : op.Selects) : decode (encodeI op) = .ok (.iFormat op) := by
  cases op with
  | apciDec c0 c1 c2 c3 =>
    have hf : formatOf c0 = .i := hs
    simp [encodeI, decode, onControl, hf]
  | frameDec f =>
    obtain ⟨hlen, hf⟩ := hs
    simp [encodeI, decode, onControl, hf, hlen]
  | _ => rfl

theorem decode_encodeS {op : SOp} (hs : op.Selects) : decode (encodeS op) = .ok (.sFormat op) := by
  cases op with
  | apciDec c0 c1 c2 c3 =>
    have hf : formatOf c0 = .s := hs
    simp [encodeS, decode, onControl, hf]
  | frameDec f =>
    obtain ⟨hlen, hf⟩ := hs
    simp [encodeS, decode, onControl, hf, hlen]
  | _ => rfl

theorem decode_encodeU {act : UAct} {op : UOp} (hs : op.Selects act) : decode (encodeU act op) = .ok (uRow act op) := by
  cases op with
  | apciDec c1 c2 c3 => simp [encodeU, decode, onControl, formatOf_uCode]
  | frameDec f =>
    obtain ⟨hlen, hf⟩ := hs
    simp [encodeU, decode, onControl, hf, hlen]
  | _ => rfl

/-- The converse of `selects_of_decode`. -/
theorem decode_of_selects {r : Request} {i : Instr} (h : Selects r i) : decode r = .ok i := by
  cases h with
  | ofType hm op => exact decode_encodeType hm op
  | ofI op hs => exact decode_encodeI hs
  | ofS op hs => exact decode_encodeS hs
  | ofU act op hs => exact decode_encodeU hs

/-! ### What a row's checks say of the operand bytes -/

/-- The converse of `FrameSelects.check`. -/
theorem frameSelects_of_check {F : Format} {f : Span}
    (h : (decide (3 ≤ f.length) && formatOf (byteAt f 2) == F) = true) : FrameSelects F f := by
  simpa [FrameSelects] using h

theorem IOp.selects_of_wellFormedI {op : IOp} (h : wellFormedI op = true) : op.Selects := by
  cases op with
  | apciDec c0 c1 c2 c3 => exact beq_iff_eq.1 h
  | frameDec f => exact frameSelects_of_check h
  | _ => trivial

theorem SOp.selects_of_wellFormedS {op : SOp} (h : wellFormedS op = true) : op.Selects := by
  cases op with
  | apciDec c0 c1 c2 c3 => exact beq_iff_eq.1 h
  | frameDec f => exact frameSelects_of_check h
  | _ => trivial

theorem UOp.selects_of_wellFormedU {act : UAct} {op : UOp} (h : wellFormedU act op = true) : op.Selects act := by
  cases op with
  | frameDec f => exact frameSelects_of_check h
  | _ => trivial

/-- The encoding of a well-formed instruction selects its row. Each of the 66 type rows is the row that `typeRow` gives
for the type identifier its encoding carries, with no check on the operand. -/
theorem selects_encode {i : Instr} (h : i.wellFormed = true) : Selects (encode i) i := by
  cases i with
  | iFormat op => exact .ofI op (IOp.selects_of_wellFormedI h)
  | sFormat op => exact .ofS op (SOp.selects_of_wellFormedS h)
  | uStartdtAct op => exact .ofU .startdtAct op (UOp.selects_of_wellFormedU h)
  | uStartdtCon op => exact .ofU .startdtCon op (UOp.selects_of_wellFormedU h)
  | uStopdtAct op => exact .ofU .stopdtAct op (UOp.selects_of_wellFormedU h)
  | uStopdtCon op => exact .ofU .stopdtCon op (UOp.selects_of_wellFormedU h)
  | uTestfrAct op => exact .ofU .testfrAct op (UOp.selects_of_wellFormedU h)
  | uTestfrCon op => exact .ofU .testfrCon op (UOp.selects_of_wellFormedU h)
  | _ op => exact .ofType rfl op

/-- Settles O47: the encoding selects the instruction's row, and what selects a row decodes to it. -/
theorem decodeOfEncode : Obligations.DecodeOfEncode :=
  fun _ h => decode_of_selects (selects_encode h)

/-! ### Words of the tables -/

/-- A type identifier without a row selects nothing (R85). -/
theorem onType_of_unsupported {t : Byte} (h : layoutOf t = none) (op : TypeOp) : onType t op = .error (.unknownTypeId t) := by
  simp [onType, (typeRow_none_iff t).2 h]

/-- Settles O46: each word selects its row by the format of c0, by the row's own code, or by its type identifier; 125
has no row. -/
theorem decodedWords : Obligations.DecodedWords :=
  ⟨decode_of_selects (.ofI (.apciDec 0x02 0x00 0x04 0x00) (by decide : formatOf 0x02 = .i)),
    decode_of_selects (.ofS (.apciDec 0x01 0x00 0x0A 0x00) (by decide : formatOf 0x01 = .s)),
    decode_of_selects (.ofU .startdtCon (.apciDec 0x00 0x00 0x00) trivial),
    decode_of_selects (.ofU .testfrAct (.apciDec 0x12 0x34 0x56) trivial),
    decode_of_selects (.ofType (t := 0x1E) rfl (.elemDec [0x01])),
    decode_of_selects (.ofType (t := 0x64) rfl (.asduDec [0x01])),
    onType_of_unsupported (t := 0x7D) rfl (.elemDec [0x00])⟩

end Sys2Proof
end

section
/-! PROOFS of the statement about the reserved bits of elements (30_encoding R87). What is proved of each of the 40 codecs
(`ElemLaws`) is that encoding a decoded value gives the span with its reserved bits cleared, and that decoding an encoded
value gives the value. The statement follows from these for every element alike. -/
namespace Sys2Proof
open Sys2Proof.Machine Sys2Proof.Claims

/-! ### Reading and putting bit fields (R100, R101) -/

theorem testBit_field (v lo w i : Nat) : (field v lo w).testBit i = (decide (i < w) && v.testBit (lo + i)) := by
  rw [field, Nat.testBit_and, Nat.testBit_shiftRight, Nat.testBit_two_pow_sub_one, Bool.and_comm]

theorem testBit_put (lo w x i : Nat) : (put lo w x).testBit i = (decide (lo ≤ i) && x.testBit (i - lo)) :=
  Nat.testBit_shiftLeft x

@[simp] theorem flag_or (a b i : Nat) : flag (a ||| b) i = (flag a i || flag b i) := by simp [flag_eq]

@[simp] theorem field_or (a b lo w : Nat) : field (a ||| b) lo w = field a lo w ||| field b lo w := by
  rw [field, Nat.shiftRight_or_distrib, Nat.and_or_distrib_right]; rfl

/-- A field put at other bits reads as 0. -/
@[simp] theorem field_put_of_disjoint {lo w x lo' w' : Nat} (hx : x < 2 ^ w) (hd : lo' + w' ≤ lo ∨ lo + w ≤ lo') :
    field (put lo w x) lo' w' = 0 := by
  refine Nat.eq_of_testBit_eq fun i => ?_
  rw [testBit_field, testBit_put, Nat.zero_testBit]
  rcases hd with below | above
  · by_cases hi : i < w'
    · simp [show ¬ lo ≤ lo' + i by omega]
    · simp [hi]
  · rw [Nat.testBit_lt_two_pow (hx.trans_le (Nat.pow_le_pow_right two_pos (by omega)))]
    simp

@[simp] theorem flag_put_of_disjoint {lo w x i : Nat} (hx : x < 2 ^ w) (hd : i + 1 ≤ lo ∨ lo + w ≤ i) :
    flag (put lo w x) i = false := by
  rw [flag, field_put_of_disjoint hx hd]; rfl

@[simp] theorem field_putFlag_of_disjoint {lo w i : Nat} (b : Bool) (hd : lo + w ≤ i ∨ i + 1 ≤ lo) :
    field (putFlag i b) lo w = 0 :=
  field_put_of_disjoint (Bool.toNat_lt b) hd

@[simp] theorem flag_putFlag (i j : Nat) (b : Bool) : flag (putFlag i b) j = (decide (i = j) && b) := by
  rw [flag_eq, putFlag, testBit_put]
  rcases lt_trichotomy i j with hlt | rfl | hgt
  · rw [Nat.testBit_lt_two_pow ((Bool.toNat_lt b).trans_le (Nat.le_self_pow (Nat.sub_ne_zero_of_lt hlt) 2))]
    simp [hlt.ne]
  · cases b <;> simp
  · simp [hgt.ne', Nat.not_le.2 hgt]

/-- Bits of a byte above the byte are never read. -/
@[simp] theorem field_mod_256 {n lo w : Nat} (h : lo + w ≤ 8) : field (n % 256) lo w = field n lo w := by
  refine Nat.eq_of_testBit_eq fun i => ?_
  rw [testBit_field, testBit_field, show 256 = 2 ^ 8 from rfl, Nat.testBit_mod_two_pow]
  by_cases hi : i < w
  · simp [show lo + i < 8 by omega]
  · simp [hi]

@[simp] theorem flag_mod_256 {n i : Nat} (h : i + 1 ≤ 8) : flag (n % 256) i = flag n i := by
  rw [flag, field_mod_256 h]; rfl

/-- A field put back where it was read is the number under the field's mask. -/
theorem put_field (v lo w : Nat) : put lo w (field v lo w) = v &&& (2 ^ w - 1) <<< lo := by
  refine Nat.eq_of_testBit_eq fun i => ?_
  rw [testBit_put, testBit_field, Nat.testBit_and, Nat.testBit_shiftLeft, Nat.testBit_two_pow_sub_one]
  by_cases hi : lo ≤ i
  · simp [hi, Bool.and_comm]
  · simp [hi]

theorem putFlag_flag (v i : Nat) : putFlag i (flag v i) = v &&& (2 ^ 1 - 1) <<< i := by
  rw [putFlag, flag_eq, Nat.toNat_testBit, ← put_field, field_eq, pow_one]

theorem byte_and (b : Byte) (m : Nat) : byte (b.toNat &&& m) = b &&& byte m := by
  apply BitVec.eq_of_toNat_eq
  rw [BitVec.toNat_and, toNat_byte, toNat_byte, Nat.and_mod_two_pow, Nat.mod_eq_of_lt b.isLt]

theorem byte_and_255 (b : Byte) : b &&& 255#8 = b := BitVec.and_allOnes

/-- A big-endian pair written back. -/
theorem be16Bytes_be16 (b0 b1 : Byte) : be16Bytes (be16 b0 b1) = [b0, b1] := by
  have h0 : (b0.toNat * 2 ^ 8 + b1.toNat) / 2 ^ 8 = b0.toNat := by omega
  have h1 : (b0.toNat * 2 ^ 8 + b1.toNat) % 2 ^ 8 = b1.toNat := by omega
  rw [be16Bytes, be16, h0, h1, byte_toNat, byte_toNat]

theorem be16_lt (b0 b1 : Byte) : be16 b0 b1 < 2 ^ 16 := by
  unfold be16; omega

theorem wrap_lt (n : Nat) (x : Int) : wrap n x < 2 ^ n := by
  have hpow : (0 : Int) < 2 ^ n := by positivity
  have hlt := Int.emod_lt_of_pos x hpow
  have hcast : ((2 ^ n : Nat) : Int) = 2 ^ n := by push_cast; rfl
  unfold wrap
  omega

/-- A pattern of n bits is the pattern of its signed value (R22). -/
theorem wrap_sext {n v : Nat} (h : v < 2 ^ n) : wrap n (sext n v) = v := by
  have hv : ((v : Int)) % 2 ^ n = v := Int.emod_eq_of_lt (by omega) (by exact_mod_cast h)
  unfold wrap sext
  split
  · rw [Int.sub_emod_right, hv, Int.toNat_natCast]
  · rw [hv, Int.toNat_natCast]

/-- The signed value of a pattern of n bits is an iN value (R21, R22). -/
theorem fitsSigned_sext {n v : Nat} (hn : 1 ≤ n) (h : v < 2 ^ n) : fitsSigned n (sext n v) = true := by
  obtain ⟨m, rfl⟩ : ∃ m, n = m + 1 := ⟨n - 1, by omega⟩
  have hpow : (2 : Int) ^ (m + 1) = 2 * 2 ^ m := by ring
  have hcast : ((2 ^ m : Nat) : Int) = 2 ^ m := by push_cast; rfl
  rw [pow_succ] at h
  have hflag : flag v m = decide (2 ^ m ≤ v) := by
    rw [flag_eq, Nat.testBit_eq_decide_div_mod_eq, decide_eq_decide]
    rcases Nat.lt_or_ge v (2 ^ m) with hlt | hge
    · rw [Nat.div_eq_of_lt hlt]; omega
    · rw [Nat.div_eq_of_lt_le (k := 1) (by omega) (by omega)]; omega
  simp only [fitsSigned, sext, Nat.add_sub_cancel, hflag, hpow, decide_eq_true_eq]
  split <;> omega

/-! ### Clearing the reserved bits (R87) -/

/-- The span of the element e with its reserved bits 0. -/
def clearReserved (e : Elem) (S : Span) : Span := S.mapIdx fun i b => b &&& ~~~at' (reserved e) i

@[simp] theorem clearReserved_length (e : Elem) (S : Span) : (clearReserved e S).length = S.length := by
  simp [clearReserved]

theorem at'_clearReserved (e : Elem) (S : Span) (i : Nat) :
    at' (clearReserved e S) i = at' S i &&& ~~~at' (reserved e) i := by
  simp only [at', clearReserved, List.getD_eq_getElem?_getD, List.getElem?_mapIdx]
  cases S[i]? <;> simp

theorem span_ext {S T : Span} (hlen : S.length = T.length) (h : ∀ i, at' S i = at' T i) : S = T := by
  refine List.ext_getElem hlen fun i hS hT => ?_
  simpa only [at', List.getD_eq_getElem _ _ hS, List.getD_eq_getElem _ _ hT] using h i

theorem clearReserved_eq_iff {e : Elem} {S T : Span} (hlen : S.length = T.length) :
    clearReserved e S = clearReserved e T ↔
      ∀ i, at' S i &&& ~~~at' (reserved e) i = at' T i &&& ~~~at' (reserved e) i := by
  simp only [← at'_clearReserved]
  exact ⟨fun h i => by rw [h], span_ext (by simpa using hlen)⟩

theorem and_compl_eq_self_iff (b m : Byte) : b &&& ~~~m = b ↔ b &&& m = 0 := by
  constructor
  · intro h; rw [← h, BitVec.and_assoc]; simp
  · intro h
    calc b &&& ~~~m = (b &&& ~~~m) ||| (b &&& m) := by rw [h]; simp
      _ = b := by ext i hi; simp; cases b[i] <;> simp

theorem clearReserved_eq_self_iff {e : Elem} {S : Span} : clearReserved e S = S ↔ ReservedZero e S := by
  constructor
  · intro h i
    rw [← and_compl_eq_self_iff, ← at'_clearReserved, h]
  · intro h
    exact span_ext (clearReserved_length e S) fun i => by rw [at'_clearReserved, (and_compl_eq_self_iff _ _).2 (h i)]

/-- An element without reserved bits keeps every span. -/
theorem clearReserved_of_nil {e : Elem} (h : reserved e = []) (S : Span) : clearReserved e S = S :=
  clearReserved_eq_self_iff.2 fun i => by simp [h, at']

/-! ### The laws of a codec, and what they say of its reserved bits -/

/-- What is proved of the codec of each element e. -/
structure ElemLaws (e : Elem) : Prop where
  /-- only spans of the element's width decode -/
  length_of_decode : ∀ S v, elemDecode e S = .ok v → S.length = elemWidth e
  /-- each of them does, to a value that encodes to the span with its reserved bits cleared -/
  encode_decode : ∀ S, S.length = elemWidth e →
    ∃ v, elemDecode e S = .ok v ∧ v.elem = e ∧ elemEncode v = .ok (clearReserved e S)
  /-- what a value encodes to decodes to the value -/
  decode_encode : ∀ v S, v.elem = e → elemEncode v = .ok S → elemDecode e S = .ok v

namespace ElemLaws
variable {e : Elem} {S : Span} {v : ElemV}

theorem elemEncode_of_decode (L : ElemLaws e) (h : elemDecode e S = .ok v) :
    elemEncode v = .ok (clearReserved e S) := by
  obtain ⟨w, hw, -, henc⟩ := L.encode_decode S (L.length_of_decode S v h)
  cases h.symm.trans hw
  exact henc

/-- A span decodes as it does with its reserved bits cleared. -/
theorem decode_clearReserved (L : ElemLaws e) (hS : S.length = elemWidth e) :
    elemDecode e (clearReserved e S) = elemDecode e S := by
  obtain ⟨v, hv, helem, henc⟩ := L.encode_decode S hS
  rw [hv, L.decode_encode v _ helem henc]

/-- Encoding undoes decoding exactly on the spans that clearing leaves as they are. -/
theorem encode_eq_iff (L : ElemLaws e) (h : elemDecode e S = .ok v) : elemEncode v = .ok S ↔ ReservedZero e S := by
  rw [L.elemEncode_of_decode h, Except.ok.injEq, clearReserved_eq_self_iff]

/-- What is encoded decodes, so by `encode_eq_iff` its reserved bits are 0. -/
theorem reservedZero_of_encode (L : ElemLaws e) (he : v.elem = e) (h : elemEncode v = .ok S) : ReservedZero e S :=
  (L.encode_eq_iff (L.decode_encode v S he h)).1 h

end ElemLaws

/-! ### The shapes of codecs -/

/-- The decoder of a one-byte element: D of the byte, M11 on another length. -/
def decByte {α : Type} (e : Elem) (D : Byte → α) : Span → Except Err α
  | [b] => .ok (D b)
  | S => .error (spanLength e S)

/-- The range checks of an encoder in its order, each field with its bound and its value; then the span. -/
def checked (e : Elem) : List (SubField × Nat × Nat) → Span → Except Err Span
  | [], out => .ok out
  | (f, bound, x) :: checks, out => if bound ≤ x then .error (fieldRange e f) else checked e checks out

/-- Every checked field is below its bound. -/
def InRange : List (SubField × Nat × Nat) → Prop
  | [] => True
  | (_, bound, x) :: checks => x < bound ∧ InRange checks

theorem checked_eq_ok {e : Elem} {checks : List (SubField × Nat × Nat)} {out S : Span} :
    checked e checks out = .ok S ↔ InRange checks ∧ out = S := by
  induction checks with
  | nil => simp [checked, InRange]
  | cons c checks ih =>
    obtain ⟨f, bound, x⟩ := c
    by_cases hx : bound ≤ x
    · simp [checked, InRange, hx, Nat.not_lt.2 hx]
    · simp [checked, InRange, hx, Nat.not_le.1 hx, ih]

theorem length_of_map {α : Type} {n : Nat} {inj : α → ElemV} {dec : Span → Except Err α}
    (h : ∀ S a, dec S = .ok a → S.length = n) : ∀ S v, (dec S).map inj = .ok v → S.length = n := by
  intro S v hv
  cases ha : dec S with
  | ok a => exact h S a ha
  | error e => rw [ha] at hv; cases hv

theorem unless_eq_ok {p : Bool} {x : Err} {r : Except Err Span} {S : Span} :
    (if ¬ p then .error x else r) = .ok S ↔ p = true ∧ r = .ok S := by
  cases p <;> simp

/-- The values of the element e are those of inj. -/
structure Covers {α : Type} (e : Elem) (inj : α → ElemV) : Prop where
  elem : ∀ a, (inj a).elem = e
  surj : ∀ x : ElemV, x.elem = e → ∃ a, inj a = x

section
variable {α : Type} {e : Elem} {inj : α → ElemV}

/-- The general shape: D reads the spans of the element's width, E writes the values that are ok. -/
theorem elemLaws_of_span (D : Span → α) {ok : α → Prop} {E : α → Span} (covers : Covers e inj)
    (length : ∀ S v, elemDecode e S = .ok v → S.length = elemWidth e)
    (decode : ∀ S, S.length = elemWidth e → elemDecode e S = .ok (inj (D S)))
    (encode : ∀ a S, elemEncode (inj a) = .ok S ↔ ok a ∧ E a = S)
    (clears : ∀ S, S.length = elemWidth e → ok (D S) ∧ E (D S) = clearReserved e S)
    (restores : ∀ a, ok a → (E a).length = elemWidth e ∧ D (E a) = a) : ElemLaws e where
  length_of_decode := length
  encode_decode S hS := ⟨_, decode S hS, covers.elem _, (encode _ _).2 (clears S hS)⟩
  decode_encode v S hv h := by
    obtain ⟨a, rfl⟩ := covers.surj v hv
    obtain ⟨hok, rfl⟩ := (encode a S).1 h
    obtain ⟨hlen, hback⟩ := restores a hok
    rw [decode _ hlen, hback]

/-- One byte of fields; m is the mask of the bits they hold. -/
theorem elemLaws_of_byte {D : Byte → α} {ok : α → Prop} {E : α → Nat} (m : Nat)
    (width : elemWidth e = 1 ∧ byte m = ~~~at' (reserved e) 0) (covers : Covers e inj)
    (decode : ∀ S, elemDecode e S = (decByte e D S).map inj)
    (encode : ∀ a S, elemEncode (inj a) = .ok S ↔ ok a ∧ [byte (E a)] = S)
    (inRange : ∀ b, ok (D b)) (clears : ∀ b : Byte, E (D b) = b.toNat &&& m)
    (restores : ∀ a, ok a → D (byte (E a)) = a) : ElemLaws e := by
  obtain ⟨hw, hm⟩ := width
  have one_byte : ∀ {S : Span}, S.length = elemWidth e → ∃ b, S = [b] :=
    fun hS => List.length_eq_one_iff.1 (hS.trans hw)
  refine elemLaws_of_span (fun S => D (at' S 0)) covers ?_ ?_ encode ?_ fun a ha => ⟨hw.symm, restores a ha⟩
  · intro S v h
    rw [decode] at h
    match S, h with
    | [b], _ => exact hw.symm
  · intro S hS
    obtain ⟨b, rfl⟩ := one_byte hS
    exact decode [b]
  · intro S hS
    obtain ⟨b, rfl⟩ := one_byte hS
    refine ⟨inRange b, ?_⟩
    change [byte (E (D b))] = [b &&& ~~~at' (reserved e) 0]
    rw [clears, byte_and, hm]

/-- One byte of unsigned fields and flags, each field checked against its bound. -/
theorem elemLaws_of_checkedByte {D : Byte → α} {E : α → Nat} (m : Nat) (checks : α → List (SubField × Nat × Nat))
    (width : elemWidth e = 1 ∧ byte m = ~~~at' (reserved e) 0) (covers : Covers e inj)
    (decode : ∀ S, elemDecode e S = (decByte e D S).map inj)
    (encode : ∀ a, elemEncode (inj a) = checked e (checks a) [byte (E a)])
    (inRange : ∀ b, InRange (checks (D b))) (clears : ∀ b : Byte, E (D b) = b.toNat &&& m)
    (restores : ∀ a, InRange (checks a) → D (byte (E a)) = a) : ElemLaws e :=
  elemLaws_of_byte m width covers decode (fun a S => by rw [encode, checked_eq_ok]) inRange clears restores

end

/-- The whole byte is one number. -/
theorem elemLaws_of_wholeByte {e : Elem} {inj : Nat → ElemV}
    (width : elemWidth e = 1 ∧ byte 255 = ~~~at' (reserved e) 0)
    (covers : Covers e inj) (decode : ∀ S, elemDecode e S = (decByte e BitVec.toNat S).map inj)
    (encode : ∀ n, elemEncode (inj n) = checked e [(.value, 256, n)] [byte n]) : ElemLaws e :=
  elemLaws_of_checkedByte 255 (fun n => [(.value, 256, n)]) width covers decode encode (fun b => ⟨b.isLt, trivial⟩)
    (fun b => (Nat.and_two_pow_sub_one_of_lt_two_pow (n := 8) b.isLt).symm)
    (fun n ⟨hn, _⟩ => (toNat_byte n).trans (Nat.mod_eq_of_lt hn))

/-- A number of seven bits and a flag in bit 7. -/
theorem elemLaws_of_field7_flag {e : Elem} {inj : Nat × Bool → ElemV} (f : SubField)
    (width : elemWidth e = 1 ∧ byte 255 = ~~~at' (reserved e) 0) (covers : Covers e inj)
    (decode : ∀ S, elemDecode e S = (decByte e (fun b => (field b.toNat 0 7, flag b.toNat 7)) S).map inj)
    (encode : ∀ a, elemEncode (inj a) = checked e [(f, 128, a.1)] [byte (put 0 7 a.1 ||| putFlag 7 a.2)]) :
    ElemLaws e :=
  elemLaws_of_checkedByte 255 (fun a => [(f, 128, a.1)]) width covers decode encode (fun b => ⟨field_lt _ 0 7, trivial⟩)
    (fun b => by simp only [put_field, putFlag_flag, ← Nat.and_or_distrib_left]; rfl)
    (fun ⟨x, b⟩ ⟨hx, _⟩ => by simp [hx, field_put])

/-- Two numbers of four bits. -/
theorem elemLaws_of_nibbles {e : Elem} {inj : Nat × Nat → ElemV} (f g : SubField)
    (width : elemWidth e = 1 ∧ byte 255 = ~~~at' (reserved e) 0) (covers : Covers e inj)
    (decode : ∀ S, elemDecode e S = (decByte e (fun b => (field b.toNat 0 4, field b.toNat 4 4)) S).map inj)
    (encode : ∀ a, elemEncode (inj a) = checked e [(f, 16, a.1), (g, 16, a.2)] [byte (put 0 4 a.1 ||| put 4 4 a.2)]) :
    ElemLaws e :=
  elemLaws_of_checkedByte 255 (fun a => [(f, 16, a.1), (g, 16, a.2)]) width covers decode encode
    (fun b => ⟨field_lt _ 0 4, field_lt _ 4 4, trivial⟩)
    (fun b => by simp only [put_field, ← Nat.and_or_distrib_left]; rfl)
    (fun ⟨x, y⟩ ⟨hx, hy, _⟩ => by simp [hx, hy, field_put])

/-- A command state of two bits, a qualifier of five and the select flag (R142, R143). -/
theorem elemLaws_of_command {e : Elem} {inj : Nat × Nat × Bool → ElemV} (f : SubField)
    (width : elemWidth e = 1 ∧ byte 255 = ~~~at' (reserved e) 0) (covers : Covers e inj)
    (decode : ∀ S, elemDecode e S =
      (decByte e (fun b => (field b.toNat 0 2, field b.toNat 2 5, flag b.toNat 7)) S).map inj)
    (encode : ∀ a, elemEncode (inj a) =
      checked e [(f, 4, a.1), (.qu, 32, a.2.1)] [byte (put 0 2 a.1 ||| put 2 5 a.2.1 ||| putFlag 7 a.2.2)]) :
    ElemLaws e :=
  elemLaws_of_checkedByte 255 (fun a => [(f, 4, a.1), (.qu, 32, a.2.1)]) width covers decode encode
    (fun b => ⟨field_lt _ 0 2, field_lt _ 2 5, trivial⟩)
    (fun b => by simp only [put_field, putFlag_flag, ← Nat.and_or_distrib_left]; rfl)
    (fun ⟨x, y, b⟩ ⟨hx, hy, _⟩ => by simp [hx, hy, field_put])

/-- A little-endian number that fills the span. -/
theorem elemLaws_of_le {e : Elem} {inj : Nat → ElemV} (f : SubField) (noReserved : reserved e = [])
    (covers : Covers e inj) (length : ∀ S v, elemDecode e S = .ok v → S.length = elemWidth e)
    (decode : ∀ S, S.length = elemWidth e → elemDecode e S = .ok (inj (leNat S)))
    (encode : ∀ n, elemEncode (inj n) = checked e [(f, 2 ^ (8 * elemWidth e), n)] (leBytes (elemWidth e) n)) :
    ElemLaws e :=
  elemLaws_of_span leNat (ok := fun n => InRange [(f, 2 ^ (8 * elemWidth e), n)]) covers length decode
    (fun n S => by rw [encode, checked_eq_ok])
    (fun S hS => by
      rw [clearReserved_of_nil noReserved, ← hS, leBytes_leNat]
      exact ⟨⟨leNat_lt S, trivial⟩, rfl⟩)
    (fun n ⟨hn, _⟩ => ⟨leBytes_length _ n, leNat_leBytes hn⟩)

/-- A big-endian number in two's complement that fills the span (R130, R132). -/
theorem elemLaws_of_be16 {e : Elem} {inj : Int → ElemV} (f : SubField) (width : elemWidth e = 2 ∧ reserved e = [])
    (covers : Covers e inj) (length : ∀ S v, elemDecode e S = .ok v → S.length = elemWidth e)
    (decode : ∀ b0 b1, elemDecode e [b0, b1] = .ok (inj (sext 16 (be16 b0 b1))))
    (encode : ∀ a, elemEncode (inj a) =
      if ¬ fitsSigned 16 a then .error (fieldRange e f) else .ok (be16Bytes (wrap 16 a))) : ElemLaws e := by
  obtain ⟨hw, hr⟩ := width
  have two_bytes : ∀ {S : Span}, S.length = elemWidth e → ∃ b0 b1, S = [b0, b1] :=
    fun hS => List.length_eq_two.1 (hS.trans hw)
  refine elemLaws_of_span (fun S => sext 16 (be16 (at' S 0) (at' S 1))) covers length ?_
    (fun a S => by rw [encode, unless_eq_ok, Except.ok.injEq]) ?_ ?_
  · intro S hS
    obtain ⟨b0, b1, rfl⟩ := two_bytes hS
    exact decode b0 b1
  · intro S hS
    obtain ⟨b0, b1, rfl⟩ := two_bytes hS
    rw [clearReserved_of_nil hr]
    refine ⟨fitsSigned_sext (by decide) (be16_lt b0 b1), ?_⟩
    rw [wrap_sext (be16_lt _ _)]
    exact be16Bytes_be16 b0 b1
  · intro a ha
    obtain ⟨b0, b1, hbytes, hval⟩ := be16_be16Bytes (wrap_lt 16 a)
    rw [hbytes]
    exact ⟨hw.symm, (congrArg (sext 16) hval).trans (sext_wrap (by decide) ha)⟩

/-! ### Status and quality elements (40_elem_status) -/

theorem q4Enc_q4Dec (v : Nat) : q4Enc (q4Dec v) = v &&& 0xF0 := by
  simp only [q4Enc, q4Dec, putFlag_flag, ← Nat.and_or_distrib_left]; rfl

/-- A flag in bit i beside the quality flags of bits 4 to 7 (R104, R105, R113). -/
theorem elemLaws_of_flag_quality {e : Elem} {inj : Bool × Q4 → ElemV} (i : Nat) (hi : i < 4)
    (width : elemWidth e = 1 ∧ byte ((2 ^ 1 - 1) <<< i ||| 0xF0) = ~~~at' (reserved e) 0) (covers : Covers e inj)
    (decode : ∀ S, elemDecode e S = (decByte e (fun b => (flag b.toNat i, q4Dec b.toNat)) S).map inj)
    (encode : ∀ a, elemEncode (inj a) = .ok [byte (putFlag i a.1 ||| q4Enc a.2)]) : ElemLaws e :=
  elemLaws_of_checkedByte _ (fun _ => []) width covers decode encode (fun _ => trivial)
    (fun b => by simp only [q4Enc_q4Dec, putFlag_flag, ← Nat.and_or_distrib_left])
    (fun ⟨v, bl, sb, nt, iv⟩ _ => by interval_cases i <;> simp [q4Enc, q4Dec])

theorem elemLaws_qds : ElemLaws .qds :=
  elemLaws_of_flag_quality (inj := fun a => .qds { toQ4 := a.2, ov := a.1 }) 0 (by decide) ⟨rfl, by decide⟩
    (covers := ⟨fun _ => rfl, fun | .qds ⟨q, ov⟩, _ => ⟨(ov, q), rfl⟩⟩)
    (decode := fun | [] | [_] | _ :: _ :: _ => rfl) (encode := fun _ => rfl)

theorem elemLaws_siq : ElemLaws .siq :=
  elemLaws_of_flag_quality (inj := fun a => .siq { toQ4 := a.2, spi := a.1 }) 0 (by decide) ⟨rfl, by decide⟩
    (covers := ⟨fun _ => rfl, fun | .siq ⟨q, spi⟩, _ => ⟨(spi, q), rfl⟩⟩)
    (decode := fun | [] | [_] | _ :: _ :: _ => rfl) (encode := fun _ => rfl)

theorem elemLaws_qdp : ElemLaws .qdp :=
  elemLaws_of_flag_quality (inj := fun a => .qdp { toQ4 := a.2, ei := a.1 }) 3 (by decide) ⟨rfl, by decide⟩
    (covers := ⟨fun _ => rfl, fun | .qdp ⟨q, ei⟩, _ => ⟨(ei, q), rfl⟩⟩)
    (decode := fun | [] | [_] | _ :: _ :: _ => rfl) (encode := fun _ => rfl)

theorem elemLaws_diq : ElemLaws .diq :=
  elemLaws_of_checkedByte 0xF3 (fun v => [(.dpi, 4, v.dpi)]) ⟨rfl, by decide⟩ (inj := .diq)
    (covers := ⟨fun _ => rfl, fun | .diq v, _ => ⟨v, rfl⟩⟩)
    (decode := fun _ => rfl) (encode := fun _ => rfl) (inRange := fun _ => ⟨field_lt _ 0 2, trivial⟩)
    (clears := fun b => by simp only [q4Enc_q4Dec, put_field, ← Nat.and_or_distrib_left]; rfl)
    (restores := fun ⟨⟨bl, sb, nt, iv⟩, dpi⟩ ⟨hdpi, _⟩ => by simp [q4Enc, q4Dec, hdpi, field_put])

theorem elemLaws_sep : ElemLaws .sep :=
  elemLaws_of_checkedByte 0xFB (fun v => [(.es, 4, v.es)]) ⟨rfl, by decide⟩ (inj := .sep)
    (covers := ⟨fun _ => rfl, fun | .sep v, _ => ⟨v, rfl⟩⟩)
    (decode := fun _ => rfl) (encode := fun _ => rfl) (inRange := fun _ => ⟨field_lt _ 0 2, trivial⟩)
    (clears := fun b => by simp only [q4Enc_q4Dec, put_field, putFlag_flag, ← Nat.and_or_distrib_left]; rfl)
    (restores := fun ⟨⟨bl, sb, nt, iv⟩, es, ei⟩ ⟨hes, _⟩ => by simp [q4Enc, q4Dec, hes, field_put])

theorem elemLaws_spe : ElemLaws .spe :=
  elemLaws_of_checkedByte 0x3F (fun _ => []) ⟨rfl, by decide⟩ (inj := .spe)
    (covers := ⟨fun _ => rfl, fun | .spe v, _ => ⟨v, rfl⟩⟩)
    (decode := fun _ => rfl) (encode := fun _ => rfl) (inRange := fun _ => trivial)
    (clears := fun b => by simp only [putFlag_flag, ← Nat.and_or_distrib_left]; rfl)
    (restores := fun v _ => by simp)

theorem elemLaws_oci : ElemLaws .oci :=
  elemLaws_of_checkedByte 0x0F (fun _ => []) ⟨rfl, by decide⟩ (inj := .oci)
    (covers := ⟨fun _ => rfl, fun | .oci v, _ => ⟨v, rfl⟩⟩)
    (decode := fun _ => rfl) (encode := fun _ => rfl) (inRange := fun _ => trivial)
    (clears := fun b => by simp only [putFlag_flag, ← Nat.and_or_distrib_left]; rfl)
    (restores := fun v _ => by simp)

theorem elemLaws_vti : ElemLaws .vti :=
  elemLaws_of_byte 0xFF (ok := fun v => fitsSigned 7 v.value = true) ⟨rfl, by decide⟩ (inj := .vti)
    (covers := ⟨fun _ => rfl, fun | .vti v, _ => ⟨v, rfl⟩⟩) (decode := fun _ => rfl)
    (encode := fun _ _ => by rw [elemEncode, vtiEnc, unless_eq_ok, Except.ok.injEq])
    (inRange := fun _ => fitsSigned_sext (by decide) (field_lt _ 0 7))
    (clears := fun b => by
      simp only [wrap_sext (field_lt b.toNat 0 7), put_field, putFlag_flag, ← Nat.and_or_distrib_left]; rfl)
    (restores := fun ⟨value, t⟩ hv => by
      have hlt : wrap 7 value < 128 := wrap_lt 7 value
      have hback : sext 7 (wrap 7 value) = value := sext_wrap (by decide) hv
      simp [hlt, field_put, hback])

theorem elemLaws_bsi : ElemLaws .bsi :=
  elemLaws_of_le .value rfl (inj := .bsi)
    (covers := ⟨fun _ => rfl, fun | .bsi v, _ => ⟨v, rfl⟩⟩)
    (length := length_of_map (dec := bsiDec) fun | [_, _, _, _], _, _ => rfl) (decode := fun | [_, _, _, _], _ => rfl)
    (encode := fun _ => rfl)

theorem elemLaws_scd : ElemLaws .scd :=
  elemLaws_of_span (fun S => ⟨leNat (S.take 2), leNat (S.drop 2)⟩)
    (ok := fun v => InRange [(.st, 2 ^ 16, v.st), (.cd, 2 ^ 16, v.cd)]) (E := fun v => leBytes 2 v.st ++ leBytes 2 v.cd)
    (inj := .scd) (covers := ⟨fun _ => rfl, fun | .scd v, _ => ⟨v, rfl⟩⟩)
    (length := length_of_map (dec := scdDec) fun | [_, _, _, _], _, _ => rfl)
    (decode := fun | [_, _, _, _], _ => rfl)
    (encode := fun _ _ => checked_eq_ok (e := .scd) (checks := [(.st, 2 ^ 16, _), (.cd, 2 ^ 16, _)]))
    (clears := fun
      | [b0, b1, b2, b3], _ => by
        refine ⟨⟨leNat_lt [b0, b1], leNat_lt [b2, b3], trivial⟩, ?_⟩
        rw [clearReserved_of_nil rfl]
        exact congrArg₂ (· ++ ·) (leBytes_leNat [b0, b1]) (leBytes_leNat [b2, b3]))
    (restores := fun ⟨st, cd⟩ ⟨hst, hcd, _⟩ =>
      ⟨rfl, congrArg₂ SCD.mk (leNat_leBytes (k := 2) hst) (leNat_leBytes (k := 2) hcd)⟩)

/-! ### Measured values and counters (41_elem_values) -/

theorem elemLaws_nva : ElemLaws .nva :=
  elemLaws_of_be16 .raw ⟨rfl, rfl⟩ (inj := .nva)
    (covers := ⟨fun _ => rfl, fun | .nva v, _ => ⟨v, rfl⟩⟩)
    (length := length_of_map (dec := nvaDec) fun | [_, _], _, _ => rfl)
    (decode := fun _ _ => rfl) (encode := fun _ => rfl)

theorem elemLaws_sva : ElemLaws .sva :=
  elemLaws_of_be16 .value ⟨rfl, rfl⟩ (inj := .sva)
    (covers := ⟨fun _ => rfl, fun | .sva v, _ => ⟨v, rfl⟩⟩)
    (length := length_of_map (dec := svaDec) fun | [_, _], _, _ => rfl)
    (decode := fun _ _ => rfl) (encode := fun _ => rfl)

theorem elemLaws_r32 : ElemLaws .r32 :=
  elemLaws_of_le .value rfl (inj := .r32)
    (covers := ⟨fun _ => rfl, fun | .r32 v, _ => ⟨v, rfl⟩⟩)
    (length := length_of_map (dec := r32Dec) fun | [_, _, _, _], _, _ => rfl) (decode := fun | [_, _, _, _], _ => rfl)
    (encode := fun _ => rfl)

/-- The flags and the sequence number of BCR, in byte 4 of the span (R136). -/
def bcrByte (v : BCR) : Nat := put 0 5 v.sq ||| putFlag 5 v.cy ||| putFlag 6 v.ca ||| putFlag 7 v.iv

/-- A BCR of the counter x and byte 4 (R136). -/
def bcrOf (x : Int) (b : Byte) : BCR :=
  { counter := x, sq := field b.toNat 0 5, cy := flag b.toNat 5, ca := flag b.toNat 6, iv := flag b.toNat 7 }

theorem byte_bcrByte_bcrOf (x : Int) (b : Byte) : byte (bcrByte (bcrOf x b)) = b := by
  have hmask : bcrByte (bcrOf x b) = b.toNat &&& 0xFF := by
    simp only [bcrByte, bcrOf, put_field, putFlag_flag, ← Nat.and_or_distrib_left]; rfl
  rw [hmask, byte_and]
  exact byte_and_255 b

theorem bcrOf_byte_bcrByte {v : BCR} (h : v.sq < 32) : bcrOf v.counter (byte (bcrByte v)) = v := by
  simp [bcrOf, bcrByte, h, field_put]

theorem elemLaws_bcr : ElemLaws .bcr :=
  elemLaws_of_span (fun S => bcrOf (sext 32 (leNat (S.take 4))) (at' S 4))
    (ok := fun v => fitsSigned 32 v.counter = true ∧ InRange [(.sq, 32, v.sq)])
    (E := fun v => leBytes 4 (wrap 32 v.counter) ++ [byte (bcrByte v)])
    (inj := .bcr) (covers := ⟨fun _ => rfl, fun | .bcr v, _ => ⟨v, rfl⟩⟩)
    (length := length_of_map (dec := bcrDec) fun | [_, _, _, _, _], _, _ => rfl)
    (decode := fun | [_, _, _, _, _], _ => rfl)
    (encode := fun v S => by rw [elemEncode, bcrEnc, unless_eq_ok, and_assoc, ← checked_eq_ok (e := .bcr)]; rfl)
    (clears := fun
      | [b0, b1, b2, b3, b], _ => by
        have hlt : leNat [b0, b1, b2, b3] < 2 ^ 32 := leNat_lt [b0, b1, b2, b3]
        refine ⟨⟨fitsSigned_sext (by decide) hlt, field_lt _ 0 5, trivial⟩, ?_⟩
        rw [clearReserved_of_nil rfl, byte_bcrByte_bcrOf]
        change leBytes 4 (wrap 32 (sext 32 (leNat [b0, b1, b2, b3]))) ++ [b] = [b0, b1, b2, b3] ++ [b]
        rw [wrap_sext hlt]
        exact congrArg (· ++ [b]) (leBytes_leNat [b0, b1, b2, b3]))
    (restores := fun v ⟨hcounter, hsq, _⟩ => by
      refine ⟨rfl, ?_⟩
      change bcrOf (sext 32 (leNat (leBytes 4 (wrap 32 v.counter)))) (byte (bcrByte v)) = v
      rw [leNat_leBytes (k := 4) (wrap_lt 32 v.counter), sext_wrap (by decide) hcounter, bcrOf_byte_bcrByte hsq])

/-! ### Command and system qualifiers (42_elem_commands) -/

theorem elemLaws_sco : ElemLaws .sco :=
  elemLaws_of_checkedByte 0xFD (fun v => [(.qu, 32, v.qu)]) ⟨rfl, by decide⟩ (inj := .sco)
    (covers := ⟨fun _ => rfl, fun | .sco v, _ => ⟨v, rfl⟩⟩)
    (decode := fun _ => rfl) (encode := fun _ => rfl) (inRange := fun _ => ⟨field_lt _ 2 5, trivial⟩)
    (clears := fun b => by simp only [put_field, putFlag_flag, ← Nat.and_or_distrib_left]; rfl)
    (restores := fun ⟨scs, qu, se⟩ ⟨hqu, _⟩ => by simp [hqu, field_put])

theorem elemLaws_dco : ElemLaws .dco :=
  elemLaws_of_command .dcs ⟨rfl, by decide⟩ (inj := fun a => .dco ⟨a.1, a.2.1, a.2.2⟩)
    (covers := ⟨fun _ => rfl, fun | .dco ⟨dcs, qu, se⟩, _ => ⟨(dcs, qu, se), rfl⟩⟩)
    (decode := fun | [] | [_] | _ :: _ :: _ => rfl) (encode := fun _ => rfl)

theorem elemLaws_rco : ElemLaws .rco :=
  elemLaws_of_command .rcs ⟨rfl, by decide⟩ (inj := fun a => .rco ⟨a.1, a.2.1, a.2.2⟩)
    (covers := ⟨fun _ => rfl, fun | .rco ⟨rcs, qu, se⟩, _ => ⟨(rcs, qu, se), rfl⟩⟩)
    (decode := fun | [] | [_] | _ :: _ :: _ => rfl) (encode := fun _ => rfl)

theorem elemLaws_qos : ElemLaws .qos :=
  elemLaws_of_field7_flag .ql ⟨rfl, by decide⟩ (inj := fun a => .qos ⟨a.1, a.2⟩)
    (covers := ⟨fun _ => rfl, fun | .qos ⟨ql, se⟩, _ => ⟨(ql, se), rfl⟩⟩)
    (decode := fun | [] | [_] | _ :: _ :: _ => rfl) (encode := fun _ => rfl)

theorem elemLaws_qoi : ElemLaws .qoi :=
  elemLaws_of_wholeByte ⟨rfl, by decide⟩ (covers := ⟨fun _ => rfl, fun | .qoi v, _ => ⟨v, rfl⟩⟩)
    (decode := fun _ => rfl) (encode := fun _ => rfl)

theorem elemLaws_qcc : ElemLaws .qcc :=
  elemLaws_of_checkedByte 0xFF (fun v => [(.rqt, 64, v.rqt), (.frz, 4, v.frz)]) ⟨rfl, by decide⟩ (inj := .qcc)
    (covers := ⟨fun _ => rfl, fun | .qcc v, _ => ⟨v, rfl⟩⟩)
    (decode := fun _ => rfl) (encode := fun _ => rfl) (inRange := fun _ => ⟨field_lt _ 0 6, field_lt _ 6 2, trivial⟩)
    (clears := fun b => by simp only [put_field, ← Nat.and_or_distrib_left]; rfl)
    (restores := fun ⟨rqt, frz⟩ ⟨hrqt, hfrz, _⟩ => by simp [hrqt, hfrz, field_put])

theorem elemLaws_qpm : ElemLaws .qpm :=
  elemLaws_of_checkedByte 0xFF (fun v => [(.kpa, 64, v.kpa)]) ⟨rfl, by decide⟩ (inj := .qpm)
    (covers := ⟨fun _ => rfl, fun | .qpm v, _ => ⟨v, rfl⟩⟩)
    (decode := fun _ => rfl) (encode := fun _ => rfl) (inRange := fun _ => ⟨field_lt _ 0 6, trivial⟩)
    (clears := fun b => by simp only [put_field, putFlag_flag, ← Nat.and_or_distrib_left]; rfl)
    (restores := fun ⟨kpa, lpc, pop⟩ ⟨hkpa, _⟩ => by simp [hkpa, field_put])

theorem elemLaws_qpa : ElemLaws .qpa :=
  elemLaws_of_wholeByte ⟨rfl, by decide⟩ (covers := ⟨fun _ => rfl, fun | .qpa v, _ => ⟨v, rfl⟩⟩)
    (decode := fun _ => rfl) (encode := fun _ => rfl)

theorem elemLaws_qrp : ElemLaws .qrp :=
  elemLaws_of_wholeByte ⟨rfl, by decide⟩ (covers := ⟨fun _ => rfl, fun | .qrp v, _ => ⟨v, rfl⟩⟩)
    (decode := fun _ => rfl) (encode := fun _ => rfl)

theorem elemLaws_coi : ElemLaws .coi :=
  elemLaws_of_field7_flag .cause ⟨rfl, by decide⟩ (inj := fun a => .coi ⟨a.1, a.2⟩)
    (covers := ⟨fun _ => rfl, fun | .coi ⟨cause, bs1⟩, _ => ⟨(cause, bs1), rfl⟩⟩)
    (decode := fun | [] | [_] | _ :: _ :: _ => rfl) (encode := fun _ => rfl)

theorem elemLaws_fbp : ElemLaws .fbp :=
  elemLaws_of_le .value rfl (inj := .fbp)
    (covers := ⟨fun _ => rfl, fun | .fbp v, _ => ⟨v, rfl⟩⟩)
    (length := length_of_map (dec := fbpDec) fun | [_, _], _, _ => rfl) (decode := fun | [_, _], _ => rfl)
    (encode := fun _ => rfl)

theorem elemLaws_tsc : ElemLaws .tsc :=
  elemLaws_of_le .value rfl (inj := .tsc)
    (covers := ⟨fun _ => rfl, fun | .tsc v, _ => ⟨v, rfl⟩⟩)
    (length := length_of_map (dec := tscDec) fun | [_, _], _, _ => rfl) (decode := fun | [_, _], _ => rfl)
    (encode := fun _ => rfl)

/-! ### File-transfer elements (43_elem_file) -/

theorem elemLaws_nof : ElemLaws .nof :=
  elemLaws_of_le .value rfl (inj := .nof)
    (covers := ⟨fun _ => rfl, fun | .nof v, _ => ⟨v, rfl⟩⟩)
    (length := length_of_map (dec := nofDec) fun | [_, _], _, _ => rfl) (decode := fun | [_, _], _ => rfl)
    (encode := fun _ => rfl)

theorem elemLaws_nos : ElemLaws .nos :=
  elemLaws_of_wholeByte ⟨rfl, by decide⟩ (covers := ⟨fun _ => rfl, fun | .nos v, _ => ⟨v, rfl⟩⟩)
    (decode := fun _ => rfl) (encode := fun _ => rfl)

theorem elemLaws_lof : ElemLaws .lof :=
  elemLaws_of_le .value rfl (inj := .lof)
    (covers := ⟨fun _ => rfl, fun | .lof v, _ => ⟨v, rfl⟩⟩)
    (length := length_of_map (dec := lofDec) fun | [_, _, _], _, _ => rfl) (decode := fun | [_, _, _], _ => rfl)
    (encode := fun _ => rfl)

theorem elemLaws_los : ElemLaws .los :=
  elemLaws_of_wholeByte ⟨rfl, by decide⟩ (covers := ⟨fun _ => rfl, fun | .los v, _ => ⟨v, rfl⟩⟩)
    (decode := fun _ => rfl) (encode := fun _ => rfl)

theorem elemLaws_chs : ElemLaws .chs :=
  elemLaws_of_wholeByte ⟨rfl, by decide⟩ (covers := ⟨fun _ => rfl, fun | .chs v, _ => ⟨v, rfl⟩⟩)
    (decode := fun _ => rfl) (encode := fun _ => rfl)

theorem elemLaws_frq : ElemLaws .frq :=
  elemLaws_of_field7_flag .code ⟨rfl, by decide⟩ (inj := fun a => .frq ⟨a.1, a.2⟩)
    (covers := ⟨fun _ => rfl, fun | .frq ⟨code, neg⟩, _ => ⟨(code, neg), rfl⟩⟩)
    (decode := fun | [] | [_] | _ :: _ :: _ => rfl) (encode := fun _ => rfl)

theorem elemLaws_srq : ElemLaws .srq :=
  elemLaws_of_field7_flag .code ⟨rfl, by decide⟩ (inj := fun a => .srq ⟨a.1, a.2⟩)
    (covers := ⟨fun _ => rfl, fun | .srq ⟨code, notReady⟩, _ => ⟨(code, notReady), rfl⟩⟩)
    (decode := fun | [] | [_] | _ :: _ :: _ => rfl) (encode := fun _ => rfl)

theorem elemLaws_scq : ElemLaws .scq :=
  elemLaws_of_nibbles .code .err ⟨rfl, by decide⟩ (inj := fun a => .scq ⟨a.1, a.2⟩)
    (covers := ⟨fun _ => rfl, fun | .scq ⟨code, err⟩, _ => ⟨(code, err), rfl⟩⟩)
    (decode := fun | [] | [_] | _ :: _ :: _ => rfl) (encode := fun _ => rfl)

theorem elemLaws_lsq : ElemLaws .lsq :=
  elemLaws_of_wholeByte ⟨rfl, by decide⟩ (covers := ⟨fun _ => rfl, fun | .lsq v, _ => ⟨v, rfl⟩⟩)
    (decode := fun _ => rfl) (encode := fun _ => rfl)

theorem elemLaws_afq : ElemLaws .afq :=
  elemLaws_of_nibbles .code .err ⟨rfl, by decide⟩ (inj := fun a => .afq ⟨a.1, a.2⟩)
    (covers := ⟨fun _ => rfl, fun | .afq ⟨code, err⟩, _ => ⟨(code, err), rfl⟩⟩)
    (decode := fun | [] | [_] | _ :: _ :: _ => rfl) (encode := fun _ => rfl)

theorem elemLaws_sof : ElemLaws .sof :=
  elemLaws_of_checkedByte 0xFF (fun v => [(.status, 32, v.status)]) ⟨rfl, by decide⟩ (inj := .sof)
    (covers := ⟨fun _ => rfl, fun | .sof v, _ => ⟨v, rfl⟩⟩)
    (decode := fun _ => rfl) (encode := fun _ => rfl) (inRange := fun _ => ⟨field_lt _ 0 5, trivial⟩)
    (clears := fun b => by simp only [put_field, putFlag_flag, ← Nat.and_or_distrib_left]; rfl)
    (restores := fun ⟨status, lfd, forDir, fa⟩ ⟨hstatus, _⟩ => by simp [hstatus, field_put])

/-! ### Time tags (44_elem_time) -/

theorem elemLaws_cp16 : ElemLaws .cp16 :=
  elemLaws_of_le .ms rfl (inj := fun ms => .cp16 ⟨ms⟩)
    (covers := ⟨fun _ => rfl, fun | .cp16 ⟨ms⟩, _ => ⟨ms, rfl⟩⟩)
    (length := length_of_map (dec := cp16Dec) fun | [_, _], _, _ => rfl) (decode := fun | [_, _], _ => rfl)
    (encode := fun _ => rfl)

theorem cp24Bytes_cp24Of (b0 b1 b : Byte) : cp24Bytes (cp24Of b0 b1 b) = [b0, b1, b &&& 0xBF] := by
  have hmask : put 0 6 (field b.toNat 0 6) ||| putFlag 7 (flag b.toNat 7) = b.toNat &&& 0xBF := by
    simp only [put_field, putFlag_flag, ← Nat.and_or_distrib_left]; rfl
  change leBytes 2 (leNat [b0, b1]) ++ [byte (put 0 6 (field b.toNat 0 6) ||| putFlag 7 (flag b.toNat 7))] = _
  rw [hmask, byte_and]
  exact congrArg (· ++ [b &&& 0xBF]) (leBytes_leNat [b0, b1])

/-- The fields of CP24Time2a read back from its three bytes (R182). -/
theorem cp24Of_cp24Bytes {v : CP24} (hms : v.ms < 2 ^ 16) (hmin : v.min < 64) :
    cp24Of (at' (cp24Bytes v) 0) (at' (cp24Bytes v) 1) (at' (cp24Bytes v) 2) = v := by
  have hle : leNat [at' (cp24Bytes v) 0, at' (cp24Bytes v) 1] = v.ms := leNat_leBytes (k := 2) hms
  have hb : at' (cp24Bytes v) 2 = byte (put 0 6 v.min ||| putFlag 7 v.iv) := rfl
  rw [cp24Of, hle, hb]
  simp [hmin, field_put]

theorem elemLaws_cp24 : ElemLaws .cp24 :=
  elemLaws_of_span (fun S => cp24Of (at' S 0) (at' S 1) (at' S 2)) (E := cp24Bytes)
    (ok := fun v => InRange [(.ms, 2 ^ 16, v.ms), (.min, 64, v.min)])
    (inj := .cp24) (covers := ⟨fun _ => rfl, fun | .cp24 v, _ => ⟨v, rfl⟩⟩)
    (length := length_of_map (dec := cp24Dec) fun | [_, _, _], _, _ => rfl)
    (decode := fun | [_, _, _], _ => rfl)
    (encode := fun _ _ => checked_eq_ok (e := .cp24) (checks := [(.ms, 2 ^ 16, _), (.min, 64, _)]))
    (clears := fun
      | [b0, b1, b], _ => by
        refine ⟨⟨leNat_lt [b0, b1], field_lt _ 0 6, trivial⟩, (cp24Bytes_cp24Of b0 b1 b).trans ?_⟩
        simp [clearReserved, at', reserved, byte_and_255])
    (restores := fun _ ⟨hms, hmin, _⟩ => ⟨rfl, cp24Of_cp24Bytes hms hmin⟩)

/-- The checks of `ENC_CP56` in its order (R184). -/
def cp56Checks (v : CP56) : List (SubField × Nat × Nat) :=
  [(.ms, 2 ^ 16, v.ms), (.min, 64, v.min), (.hour, 32, v.hour), (.day, 32, v.day), (.dow, 8, v.dow),
    (.month, 16, v.month), (.year, 128, v.year)]

/-- The fields of CP56Time2a in bytes 3 to 6, beside a CP24Time2a in bytes 0 to 2 (R184). -/
def cp56Of (t : CP24) (h d mo y : Byte) : CP56 :=
  { t with
    hour := field h.toNat 0 5, su := flag h.toNat 7, day := field d.toNat 0 5, dow := field d.toNat 5 3,
    month := field mo.toNat 0 4, year := field y.toNat 0 7 }

/-- Bytes 3 to 6 of a CP56Time2a whose fields fit (R184). -/
def cp56Tail (v : CP56) : Span :=
  [byte (put 0 5 v.hour ||| putFlag 7 v.su), byte (put 0 5 v.day ||| put 5 3 v.dow), byte (put 0 4 v.month),
    byte (put 0 7 v.year)]

theorem cp56Tail_cp56Of (t : CP24) (h d mo y : Byte) :
    cp56Tail (cp56Of t h d mo y) = [h &&& 0x9F, d, mo &&& 0x0F, y &&& 0x7F] := by
  simp only [cp56Tail, cp56Of, put_field, putFlag_flag, ← Nat.and_or_distrib_left, byte_and]
  simp [byte, byte_and_255]

theorem cp56Of_cp56Tail {v : CP56} (hhour : v.hour < 32) (hday : v.day < 32) (hdow : v.dow < 8) (hmonth : v.month < 16)
    (hyear : v.year < 128) :
    cp56Of v.toCP24 (at' (cp56Tail v) 0) (at' (cp56Tail v) 1) (at' (cp56Tail v) 2) (at' (cp56Tail v) 3) = v := by
  simp [cp56Of, cp56Tail, at', hhour, hday, hdow, hmonth, hyear, field_put]

theorem elemLaws_cp56 : ElemLaws .cp56 :=
  elemLaws_of_span
    (fun S => cp56Of (cp24Of (at' S 0) (at' S 1) (at' S 2)) (at' S 3) (at' S 4) (at' S 5) (at' S 6))
    (E := fun v => cp24Bytes v.toCP24 ++ cp56Tail v) (ok := fun v => InRange (cp56Checks v))
    (inj := .cp56) (covers := ⟨fun _ => rfl, fun | .cp56 v, _ => ⟨v, rfl⟩⟩)
    (length := length_of_map (dec := cp56Dec) fun | [_, _, _, _, _, _, _], _, _ => rfl)
    (decode := fun | [_, _, _, _, _, _, _], _ => rfl)
    (encode := fun v _ => checked_eq_ok (e := .cp56) (checks := cp56Checks v))
    (clears := fun
      | [b0, b1, b, h, d, mo, y], _ => by
        refine ⟨⟨leNat_lt [b0, b1], field_lt _ 0 6, field_lt _ 0 5, field_lt _ 0 5, field_lt _ 5 3, field_lt _ 0 4,
          field_lt _ 0 7, trivial⟩, ?_⟩
        refine (congrArg₂ (· ++ ·) (cp24Bytes_cp24Of b0 b1 b)
          (cp56Tail_cp56Of (cp24Of b0 b1 b) h d mo y)).trans ?_
        simp [clearReserved, at', reserved, byte_and_255])
    (restores := fun v ⟨hms, hmin, hhour, hday, hdow, hmonth, hyear, _⟩ => by
      refine ⟨rfl, ?_⟩
      change cp56Of (cp24Of (at' (cp24Bytes v.toCP24) 0) (at' (cp24Bytes v.toCP24) 1) (at' (cp24Bytes v.toCP24) 2))
        (at' (cp56Tail v) 0) (at' (cp56Tail v) 1) (at' (cp56Tail v) 2) (at' (cp56Tail v) 3) = v
      rw [cp24Of_cp24Bytes hms hmin, cp56Of_cp56Tail hhour hday hdow hmonth hyear])

/-! ### All elements (R87) -/

theorem elemLaws : ∀ e : Elem, ElemLaws e
  | .qds => elemLaws_qds
  | .siq => elemLaws_siq
  | .diq => elemLaws_diq
  | .vti => elemLaws_vti
  | .bsi => elemLaws_bsi
  | .scd => elemLaws_scd
  | .qdp => elemLaws_qdp
  | .sep => elemLaws_sep
  | .spe => elemLaws_spe
  | .oci => elemLaws_oci
  | .nva => elemLaws_nva
  | .sva => elemLaws_sva
  | .r32 => elemLaws_r32
  | .bcr => elemLaws_bcr
  | .sco => elemLaws_sco
  | .dco => elemLaws_dco
  | .rco => elemLaws_rco
  | .qos => elemLaws_qos
  | .qoi => elemLaws_qoi
  | .qcc => elemLaws_qcc
  | .qpm => elemLaws_qpm
  | .qpa => elemLaws_qpa
  | .qrp => elemLaws_qrp
  | .coi => elemLaws_coi
  | .fbp => elemLaws_fbp
  | .tsc => elemLaws_tsc
  | .nof => elemLaws_nof
  | .nos => elemLaws_nos
  | .lof => elemLaws_lof
  | .los => elemLaws_los
  | .chs => elemLaws_chs
  | .frq => elemLaws_frq
  | .srq => elemLaws_srq
  | .scq => elemLaws_scq
  | .lsq => elemLaws_lsq
  | .afq => elemLaws_afq
  | .sof => elemLaws_sof
  | .cp16 => elemLaws_cp16
  | .cp24 => elemLaws_cp24
  | .cp56 => elemLaws_cp56

/-- Settles O9: two spans that agree outside the reserved bits are the same span with these cleared, and the laws of the
codecs speak of that span alone. -/
theorem reservedElementBits : Obligations.ReservedElementBits := by
  refine ⟨fun e S T hS hT hagree => ?_, fun v S h => (elemLaws v.elem).reservedZero_of_encode rfl h,
    fun e S v h => (elemLaws e).encode_eq_iff h, fun v S h => (elemLaws v.elem).decode_encode v S rfl h⟩
  have hclear : clearReserved e S = clearReserved e T := (clearReserved_eq_iff (hS.trans hT.symm)).2 hagree
  rw [← (elemLaws e).decode_clearReserved hS, hclear, (elemLaws e).decode_clearReserved hT]

end Sys2Proof
end

section
/-! PROOFS of the statements about the status and quality elements and about the contract that every element codec keeps
(40_elem_status R101 to R116). What each decoder does is said in bits; what the encoder writes is then read off its own
decoder, because what a value encodes to decodes to that value (`ElemLaws`). -/
namespace Sys2Proof
open Sys2Proof.Machine Sys2Proof.Claims

/-! ### The contract of every element codec (R102) -/

/-- M11: each decoder has one arm for the spans of its width, and all other spans fall to its last arm. -/
theorem elemDecode_of_length_ne : ∀ (e : Elem) (S : Span), S.length ≠ elemWidth e → elemDecode e S = .error (spanErr e S)
  | .qds, S, h | .siq, S, h | .diq, S, h | .vti, S, h | .qdp, S, h | .sep, S, h | .spe, S, h | .oci, S, h | .sco, S, h
  | .dco, S, h | .rco, S, h | .qos, S, h | .qoi, S, h | .qcc, S, h | .qpm, S, h | .qpa, S, h | .qrp, S, h | .coi, S, h
  | .nos, S, h | .los, S, h | .chs, S, h | .frq, S, h | .srq, S, h | .scq, S, h | .lsq, S, h | .afq, S, h | .sof, S, h =>
    match S, h with
    | [_], h => absurd rfl h
    | [], _ | _ :: _ :: _, _ => rfl
  | .nva, S, h | .sva, S, h | .fbp, S, h | .tsc, S, h | .nof, S, h | .cp16, S, h =>
    match S, h with
    | [_, _], h => absurd rfl h
    | [], _ | [_], _ | _ :: _ :: _ :: _, _ => rfl
  | .lof, S, h | .cp24, S, h =>
    match S, h with
    | [_, _, _], h => absurd rfl h
    | [], _ | [_], _ | [_, _], _ | _ :: _ :: _ :: _ :: _, _ => rfl
  | .bsi, S, h | .scd, S, h | .r32, S, h =>
    match S, h with
    | [_, _, _, _], h => absurd rfl h
    | [], _ | [_], _ | [_, _], _ | [_, _, _], _ | _ :: _ :: _ :: _ :: _ :: _, _ => rfl
  | .bcr, S, h =>
    match S, h with
    | [_, _, _, _, _], h => absurd rfl h
    | [], _ | [_], _ | [_, _], _ | [_, _, _], _ | [_, _, _, _], _ | _ :: _ :: _ :: _ :: _ :: _ :: _, _ => rfl
  | .cp56, S, h =>
    match S, h with
    | [_, _, _, _, _, _, _], h => absurd rfl h
    | [], _ | [_], _ | [_, _], _ | [_, _, _], _ | [_, _, _, _], _ | [_, _, _, _, _], _ | [_, _, _, _, _, _], _
    | _ :: _ :: _ :: _ :: _ :: _ :: _ :: _ :: _, _ => rfl

/-- What an encoder of the element e may answer (R101): a span, or X1 of a field of e. -/
def SpanOrX1 (e : Elem) (r : Except Err Span) : Prop := (∃ S, r = .ok S) ∨ ∃ f, r = .error (rangeErr e f)

namespace SpanOrX1

theorem ok {e : Elem} {S : Span} : SpanOrX1 e (.ok S) := .inl ⟨S, rfl⟩

/-- A range check keeps the contract of the encoder it stands before. -/
theorem check {e : Elem} {f : SubField} {c : Prop} [Decidable c] {r : Except Err Span} (h : SpanOrX1 e r) :
    SpanOrX1 e (if c then .error (fieldRange e f) else r) := by
  by_cases hc : c
  · exact .inr ⟨f, if_pos hc⟩
  · rwa [if_neg hc]

end SpanOrX1

/-- Every encoder is its range checks, none to seven of them, and then a span. -/
theorem elemEncode_spanOrX1 : ∀ v : ElemV, SpanOrX1 v.elem (elemEncode v)
  | .qds _ | .siq _ | .qdp _ | .spe _ | .oci _ => .ok
  | .diq _ | .vti _ | .bsi _ | .sep _ | .nva _ | .sva _ | .r32 _ | .sco _ | .qos _ | .qoi _ | .qpm _ | .qpa _ | .qrp _
  | .coi _ | .fbp _ | .tsc _ | .nof _ | .nos _ | .lof _ | .los _ | .chs _ | .frq _ | .srq _ | .lsq _ | .sof _
  | .cp16 _ => .check .ok
  | .scd _ | .bcr _ | .dco _ | .rco _ | .qcc _ | .scq _ | .afq _ | .cp24 _ => .check (.check .ok)
  | .cp56 _ => .check (.check (.check (.check (.check (.check (.check .ok))))))

/-- Settles O8: M11 and X1 from the shapes of the 40 decoders and encoders, the round trip and the reserved bits from
the laws of the codecs. -/
theorem elementCodecContract : Obligations.ElementCodecContract := by
  obtain ⟨decode_eq_of_agree, -⟩ := reservedElementBits
  refine ⟨elemDecode_of_length_ne, fun e S hS => ?_, elemEncode_spanOrX1, fun v S henc => ?_, decode_eq_of_agree⟩
  · obtain ⟨v, hdec, helem, -⟩ := (elemLaws e).encode_decode S hS
    exact ⟨v, hdec, helem⟩
  · have hdec := (elemLaws v.elem).decode_encode v S rfl henc
    exact ⟨(elemLaws v.elem).length_of_decode S v hdec, (elemLaws v.elem).reservedZero_of_encode rfl henc, hdec⟩

/-! ### The primitives in bits (R22, R24, R100) -/

/-- A field of a byte is the byte's bit slice (R22). -/
theorem field_toNat (b : Byte) (lo w : Nat) : field b.toNat lo w = bits b lo w := by
  rw [field_eq, bits, BitVec.extractLsb'_toNat, Nat.shiftRight_eq_div_pow]

/-- Sign extension of a pattern of n bits is its value in two's complement (R22). -/
theorem sext_toNat {n : Nat} (x : BitVec n) : sext n x.toNat = x.toInt := by
  rw [sext, flag_eq, BitVec.toInt_eq_msb_cond, BitVec.msb_eq_getLsbD_last, BitVec.getLsbD, Nat.cast_pow]
  rfl

/-- A byte below the bits of a pattern, as a number (R24). -/
theorem toNat_append_byte {n : Nat} (x : BitVec n) (b : Byte) : (x ++ b).toNat = b.toNat + 2 ^ 8 * x.toNat := by
  rw [BitVec.toNat_append, ← Nat.shiftLeft_add_eq_or_of_lt b.isLt, Nat.shiftLeft_eq, Nat.mul_comm, Nat.add_comm]

theorem leNat_two (b0 b1 : Byte) : leNat [b0, b1] = (b1 ++ b0).toNat := by
  simp [leNat, toNat_append_byte]

theorem leNat_four (b0 b1 b2 b3 : Byte) : leNat [b0, b1, b2, b3] = (b3 ++ b2 ++ b1 ++ b0).toNat := by
  simp [leNat, toNat_append_byte]

/-- The quality flags in bits 4 to 7 (R103). -/
theorem q4Dec_toNat (b : Byte) :
    q4Dec b.toNat = { bl := b.getLsbD 4, sb := b.getLsbD 5, nt := b.getLsbD 6, iv := b.getLsbD 7 } := by
  simp only [q4Dec, flag_toNat]

/-! ### What an encoded span says -/

/-- What a value was encoded to decodes to that value and no other. -/
theorem eq_of_encode_of_decode {v w : ElemV} {S : Span} (henc : elemEncode v = .ok S)
    (hdec : elemDecode v.elem S = .ok w) : w = v :=
  Except.ok.inj (hdec.symm.trans ((elemLaws v.elem).decode_encode v S rfl henc))

/-- A reserved bit of an encoded byte is 0 (R87). -/
theorem getLsbD_of_encode {v : ElemV} {m b : Byte} (hmask : reserved v.elem = [m]) (henc : elemEncode v = .ok [b])
    (i : Nat) (hi : m.getLsbD i = true) : b.getLsbD i = false := by
  have hzero : b &&& at' (reserved v.elem) 0 = 0 := (elemLaws v.elem).reservedZero_of_encode rfl henc 0
  rw [hmask] at hzero
  simpa [at', hi] using congrArg (·.getLsbD i) hzero

/-! ### The elements with the shared quality flags (R104, R105, R107, R113, R114) -/

theorem elemDecode_qds (b : Byte) : elemDecode .qds [b] = .ok (.qds
    { ov := b.getLsbD 0, bl := b.getLsbD 4, sb := b.getLsbD 5, nt := b.getLsbD 6, iv := b.getLsbD 7 }) := by
  rw [elemDecode, qdsDec, q4Dec_toNat, flag_toNat]; rfl

theorem elemEncode_qds (v : QDS) : ∃ b : Byte, elemEncode (.qds v) = .ok [b] ∧
    b.getLsbD 0 = v.ov ∧ b.getLsbD 4 = v.bl ∧ b.getLsbD 5 = v.sb ∧ b.getLsbD 6 = v.nt ∧ b.getLsbD 7 = v.iv ∧
    b.getLsbD 1 = false ∧ b.getLsbD 2 = false ∧ b.getLsbD 3 = false := by
  obtain ⟨b, henc⟩ : ∃ b, elemEncode (.qds v) = .ok [b] := ⟨_, rfl⟩
  have hzero := getLsbD_of_encode rfl henc
  cases eq_of_encode_of_decode henc (elemDecode_qds b)
  exact ⟨b, henc, rfl, rfl, rfl, rfl, rfl, hzero 1 (by decide), hzero 2 (by decide), hzero 3 (by decide)⟩

theorem elemDecode_siq (b : Byte) : elemDecode .siq [b] = .ok (.siq
    { spi := b.getLsbD 0, bl := b.getLsbD 4, sb := b.getLsbD 5, nt := b.getLsbD 6, iv := b.getLsbD 7 }) := by
  rw [elemDecode, siqDec, q4Dec_toNat, flag_toNat]; rfl

theorem elemEncode_siq (v : SIQ) : ∃ b : Byte, elemEncode (.siq v) = .ok [b] ∧
    b.getLsbD 0 = v.spi ∧ b.getLsbD 4 = v.bl ∧ b.getLsbD 5 = v.sb ∧ b.getLsbD 6 = v.nt ∧ b.getLsbD 7 = v.iv ∧
    b.getLsbD 1 = false ∧ b.getLsbD 2 = false ∧ b.getLsbD 3 = false := by
  obtain ⟨b, henc⟩ : ∃ b, elemEncode (.siq v) = .ok [b] := ⟨_, rfl⟩
  have hzero := getLsbD_of_encode rfl henc
  cases eq_of_encode_of_decode henc (elemDecode_siq b)
  exact ⟨b, henc, rfl, rfl, rfl, rfl, rfl, hzero 1 (by decide), hzero 2 (by decide), hzero 3 (by decide)⟩

theorem elemDecode_diq (b : Byte) : elemDecode .diq [b] = .ok (.diq
    { dpi := bits b 0 2, bl := b.getLsbD 4, sb := b.getLsbD 5, nt := b.getLsbD 6, iv := b.getLsbD 7 }) := by
  rw [elemDecode, diqDec, q4Dec_toNat, field_toNat]; rfl

theorem elemEncode_diq {v : DIQ} (hdpi : v.dpi < 4) : ∃ b : Byte, elemEncode (.diq v) = .ok [b] ∧
    bits b 0 2 = v.dpi ∧ b.getLsbD 4 = v.bl ∧ b.getLsbD 5 = v.sb ∧ b.getLsbD 6 = v.nt ∧ b.getLsbD 7 = v.iv ∧
    b.getLsbD 2 = false ∧ b.getLsbD 3 = false := by
  obtain ⟨b, henc⟩ : ∃ b, elemEncode (.diq v) = .ok [b] := ⟨_, if_neg (Nat.not_le.2 hdpi)⟩
  have hzero := getLsbD_of_encode rfl henc
  cases eq_of_encode_of_decode henc (elemDecode_diq b)
  exact ⟨b, henc, rfl, rfl, rfl, rfl, rfl, hzero 2 (by decide), hzero 3 (by decide)⟩

theorem elemDecode_qdp (b : Byte) : elemDecode .qdp [b] = .ok (.qdp
    { ei := b.getLsbD 3, bl := b.getLsbD 4, sb := b.getLsbD 5, nt := b.getLsbD 6, iv := b.getLsbD 7 }) := by
  rw [elemDecode, qdpDec, q4Dec_toNat, flag_toNat]; rfl

theorem elemEncode_qdp (v : QDP) : ∃ b : Byte, elemEncode (.qdp v) = .ok [b] ∧
    b.getLsbD 3 = v.ei ∧ b.getLsbD 4 = v.bl ∧ b.getLsbD 5 = v.sb ∧ b.getLsbD 6 = v.nt ∧ b.getLsbD 7 = v.iv ∧
    b.getLsbD 0 = false ∧ b.getLsbD 1 = false ∧ b.getLsbD 2 = false := by
  obtain ⟨b, henc⟩ : ∃ b, elemEncode (.qdp v) = .ok [b] := ⟨_, rfl⟩
  have hzero := getLsbD_of_encode rfl henc
  cases eq_of_encode_of_decode henc (elemDecode_qdp b)
  exact ⟨b, henc, rfl, rfl, rfl, rfl, rfl, hzero 0 (by decide), hzero 1 (by decide), hzero 2 (by decide)⟩

theorem elemDecode_sep (b : Byte) : elemDecode .sep [b] = .ok (.sep
    { es := bits b 0 2, ei := b.getLsbD 3, bl := b.getLsbD 4, sb := b.getLsbD 5, nt := b.getLsbD 6,
      iv := b.getLsbD 7 }) := by
  rw [elemDecode, sepDec, q4Dec_toNat, field_toNat, flag_toNat]; rfl

theorem elemEncode_sep {v : SEP} (hes : v.es < 4) : ∃ b : Byte, elemEncode (.sep v) = .ok [b] ∧
    bits b 0 2 = v.es ∧ b.getLsbD 3 = v.ei ∧ b.getLsbD 4 = v.bl ∧ b.getLsbD 5 = v.sb ∧ b.getLsbD 6 = v.nt ∧
    b.getLsbD 7 = v.iv ∧ b.getLsbD 2 = false := by
  obtain ⟨b, henc⟩ : ∃ b, elemEncode (.sep v) = .ok [b] := ⟨_, if_neg (Nat.not_le.2 hes)⟩
  have hzero := getLsbD_of_encode rfl henc
  cases eq_of_encode_of_decode henc (elemDecode_sep b)
  exact ⟨b, henc, rfl, rfl, rfl, rfl, rfl, rfl, hzero 2 (by decide)⟩

/-- Settles O1: the clauses of each element in turn, its M11 from the contract of all elements. -/
theorem qualityElementsCodec : Obligations.QualityElementsCodec :=
  ⟨elemDecode_qds, elemEncode_qds, elemDecode_of_length_ne .qds,
    elemDecode_siq, elemEncode_siq, elemDecode_of_length_ne .siq,
    elemDecode_diq, fun _ => elemEncode_diq, fun _ hdpi => if_pos hdpi, elemDecode_of_length_ne .diq,
    elemDecode_qdp, elemEncode_qdp, elemDecode_of_length_ne .qdp,
    elemDecode_sep, fun _ => elemEncode_sep, fun _ hes => if_pos hes, elemDecode_of_length_ne .sep⟩

/-! ### The other status elements (R109, R110, R112, R115, R116) -/

theorem elemDecode_vti (b : Byte) :
    elemDecode .vti [b] = .ok (.vti { value := (b.extractLsb' 0 7).toInt, t := b.getLsbD 7 }) := by
  rw [elemDecode, vtiDec, field_toNat, flag_toNat, bits, sext_toNat]; rfl

theorem fitsSigned_seven {x : Int} : fitsSigned 7 x = true ↔ -64 ≤ x ∧ x ≤ 63 := by
  simp only [fitsSigned, decide_eq_true_eq]; omega

theorem elemEncode_vti {v : VTI} (hlow : -64 ≤ v.value) (hhigh : v.value ≤ 63) : ∃ b : Byte,
    elemEncode (.vti v) = .ok [b] ∧ (b.extractLsb' 0 7).toInt = v.value ∧ b.getLsbD 7 = v.t := by
  obtain ⟨b, henc⟩ : ∃ b, elemEncode (.vti v) = .ok [b] := ⟨_, if_neg (not_not.2 (fitsSigned_seven.2 ⟨hlow, hhigh⟩))⟩
  cases eq_of_encode_of_decode henc (elemDecode_vti b)
  exact ⟨b, henc, rfl, rfl⟩

theorem elemEncode_vti_of_not_inRange {v : VTI} (h : v.value < -64 ∨ 63 < v.value) :
    elemEncode (.vti v) = .error (rangeErr .vti .value) :=
  if_pos (by rw [fitsSigned_seven]; omega)

theorem elemDecode_bsi (b0 b1 b2 b3 : Byte) :
    elemDecode .bsi [b0, b1, b2, b3] = .ok (.bsi (b3 ++ b2 ++ b1 ++ b0).toNat) := by
  rw [elemDecode, bsiDec, leNat_four]; rfl

theorem elemEncode_bsi {v : Nat} (hv : v < 2 ^ 32) : ∃ b0 b1 b2 b3 : Byte,
    elemEncode (.bsi v) = .ok [b0, b1, b2, b3] ∧ (b3 ++ b2 ++ b1 ++ b0).toNat = v := by
  obtain ⟨b0, b1, b2, b3, henc⟩ : ∃ b0 b1 b2 b3, elemEncode (.bsi v) = .ok [b0, b1, b2, b3] :=
    ⟨_, _, _, _, if_neg (Nat.not_le.2 hv)⟩
  exact ⟨b0, b1, b2, b3, henc, ElemV.bsi.inj (eq_of_encode_of_decode henc (elemDecode_bsi b0 b1 b2 b3))⟩

theorem elemDecode_scd (b0 b1 b2 b3 : Byte) : elemDecode .scd [b0, b1, b2, b3] =
    .ok (.scd { st := (b1 ++ b0).toNat, cd := (b3 ++ b2).toNat }) := by
  rw [elemDecode, scdDec, leNat_two, leNat_two]; rfl

theorem elemEncode_scd {v : SCD} (hst : v.st < 2 ^ 16) (hcd : v.cd < 2 ^ 16) : ∃ b0 b1 b2 b3 : Byte,
    elemEncode (.scd v) = .ok [b0, b1, b2, b3] ∧ (b1 ++ b0).toNat = v.st ∧ (b3 ++ b2).toNat = v.cd := by
  obtain ⟨b0, b1, b2, b3, henc⟩ : ∃ b0 b1 b2 b3, elemEncode (.scd v) = .ok [b0, b1, b2, b3] :=
    ⟨_, _, _, _, (if_neg (Nat.not_le.2 hst)).trans (if_neg (Nat.not_le.2 hcd))⟩
  cases eq_of_encode_of_decode henc (elemDecode_scd b0 b1 b2 b3)
  exact ⟨b0, b1, b2, b3, henc, rfl, rfl⟩

theorem elemEncode_scd_of_not_inRange {v : SCD} (h : 2 ^ 16 ≤ v.st ∨ 2 ^ 16 ≤ v.cd) : ∃ f : SubField,
    (f = .st ∧ 2 ^ 16 ≤ v.st ∨ f = .cd ∧ 2 ^ 16 ≤ v.cd) ∧ elemEncode (.scd v) = .error (rangeErr .scd f) := by
  by_cases hst : 2 ^ 16 ≤ v.st
  · exact ⟨.st, .inl ⟨rfl, hst⟩, if_pos hst⟩
  · have hcd := h.resolve_left hst
    exact ⟨.cd, .inr ⟨rfl, hcd⟩, (if_neg hst).trans (if_pos hcd)⟩

theorem elemDecode_spe (b : Byte) : elemDecode .spe [b] = .ok (.spe
    { gs := b.getLsbD 0, sl1 := b.getLsbD 1, sl2 := b.getLsbD 2, sl3 := b.getLsbD 3, sie := b.getLsbD 4,
      srd := b.getLsbD 5 }) := by
  simp only [elemDecode, speDec, flag_toNat]; rfl

theorem elemEncode_spe (v : SPE) : ∃ b : Byte, elemEncode (.spe v) = .ok [b] ∧
    b.getLsbD 0 = v.gs ∧ b.getLsbD 1 = v.sl1 ∧ b.getLsbD 2 = v.sl2 ∧ b.getLsbD 3 = v.sl3 ∧ b.getLsbD 4 = v.sie ∧
    b.getLsbD 5 = v.srd ∧ b.getLsbD 6 = false ∧ b.getLsbD 7 = false := by
  obtain ⟨b, henc⟩ : ∃ b, elemEncode (.spe v) = .ok [b] := ⟨_, rfl⟩
  have hzero := getLsbD_of_encode rfl henc
  cases eq_of_encode_of_decode henc (elemDecode_spe b)
  exact ⟨b, henc, rfl, rfl, rfl, rfl, rfl, rfl, hzero 6 (by decide), hzero 7 (by decide)⟩

theorem elemDecode_oci (b : Byte) : elemDecode .oci [b] = .ok (.oci
    { gc := b.getLsbD 0, cl1 := b.getLsbD 1, cl2 := b.getLsbD 2, cl3 := b.getLsbD 3 }) := by
  simp only [elemDecode, ociDec, flag_toNat]; rfl

theorem elemEncode_oci (v : OCI) : ∃ b : Byte, elemEncode (.oci v) = .ok [b] ∧
    b.getLsbD 0 = v.gc ∧ b.getLsbD 1 = v.cl1 ∧ b.getLsbD 2 = v.cl2 ∧ b.getLsbD 3 = v.cl3 ∧
    b.getLsbD 4 = false ∧ b.getLsbD 5 = false ∧ b.getLsbD 6 = false ∧ b.getLsbD 7 = false := by
  obtain ⟨b, henc⟩ : ∃ b, elemEncode (.oci v) = .ok [b] := ⟨_, rfl⟩
  have hzero := getLsbD_of_encode rfl henc
  cases eq_of_encode_of_decode henc (elemDecode_oci b)
  exact ⟨b, henc, rfl, rfl, rfl, rfl, hzero 4 (by decide), hzero 5 (by decide), hzero 6 (by decide), hzero 7 (by decide)⟩

/-- Settles O2: the clauses of each element in turn, its M11 from the contract of all elements. -/
theorem statusElementsCodec : Obligations.StatusElementsCodec :=
  ⟨elemDecode_vti, fun _ => elemEncode_vti, fun _ => elemEncode_vti_of_not_inRange, elemDecode_of_length_ne .vti,
    elemDecode_bsi, fun _ => elemEncode_bsi, fun _ hv => if_pos hv, elemDecode_of_length_ne .bsi,
    elemDecode_scd, fun _ => elemEncode_scd, fun _ => elemEncode_scd_of_not_inRange, elemDecode_of_length_ne .scd,
    elemDecode_spe, elemEncode_spe, elemDecode_of_length_ne .spe,
    elemDecode_oci, elemEncode_oci, elemDecode_of_length_ne .oci⟩

end Sys2Proof
end

section
/-! PROOFS of the statements about the measured values and counters (41_elem_values R130 to R138) and about the exact
numbers that a decoded NVA and a decoded CP16 denote (R138, R187). The codecs are settled as those of the status elements
are. The exact numbers need only that a decoded value is in the range of its encoder, which `ElemLaws` gives. -/
namespace Sys2Proof
open Sys2Proof.Machine Sys2Proof.Claims

/-! ### The primitives in bits (R22, R24) -/

theorem be16_toNat (b0 b1 : Byte) : be16 b0 b1 = (b0 ++ b1).toNat := by
  rw [toNat_append_byte, be16, Nat.mul_comm, Nat.add_comm]

theorem fitsSigned_sixteen {x : Int} : fitsSigned 16 x = true ↔ -32768 ≤ x ∧ x ≤ 32767 := by
  simp only [fitsSigned, decide_eq_true_eq]; omega

theorem fitsSigned_thirtyTwo {x : Int} : fitsSigned 32 x = true ↔ -2 ^ 31 ≤ x ∧ x < 2 ^ 31 := by
  simp only [fitsSigned, decide_eq_true_eq]

/-! ### The big-endian signed pairs (R130, R132) -/

theorem elemDecode_nva (b0 b1 : Byte) : elemDecode .nva [b0, b1] = .ok (.nva (b0 ++ b1).toInt) := by
  rw [elemDecode, nvaDec, be16_toNat, sext_toNat]; rfl

theorem elemEncode_nva {x : Int} (hlow : -32768 ≤ x) (hhigh : x ≤ 32767) : ∃ b0 b1 : Byte,
    elemEncode (.nva x) = .ok [b0, b1] ∧ (b0 ++ b1).toInt = x := by
  obtain ⟨b0, b1, henc⟩ : ∃ b0 b1, elemEncode (.nva x) = .ok [b0, b1] :=
    ⟨_, _, if_neg (not_not.2 (fitsSigned_sixteen.2 ⟨hlow, hhigh⟩))⟩
  exact ⟨b0, b1, henc, ElemV.nva.inj (eq_of_encode_of_decode henc (elemDecode_nva b0 b1))⟩

theorem elemEncode_nva_of_not_inRange {x : Int} (h : x < -32768 ∨ 32767 < x) :
    elemEncode (.nva x) = .error (rangeErr .nva .raw) :=
  if_pos (by rw [fitsSigned_sixteen]; omega)

theorem elemDecode_sva (b0 b1 : Byte) : elemDecode .sva [b0, b1] = .ok (.sva (b0 ++ b1).toInt) := by
  rw [elemDecode, svaDec, be16_toNat, sext_toNat]; rfl

theorem elemEncode_sva {x : Int} (hlow : -32768 ≤ x) (hhigh : x ≤ 32767) : ∃ b0 b1 : Byte,
    elemEncode (.sva x) = .ok [b0, b1] ∧ (b0 ++ b1).toInt = x := by
  obtain ⟨b0, b1, henc⟩ : ∃ b0 b1, elemEncode (.sva x) = .ok [b0, b1] :=
    ⟨_, _, if_neg (not_not.2 (fitsSigned_sixteen.2 ⟨hlow, hhigh⟩))⟩
  exact ⟨b0, b1, henc, ElemV.sva.inj (eq_of_encode_of_decode henc (elemDecode_sva b0 b1))⟩

theorem elemEncode_sva_of_not_inRange {x : Int} (h : x < -32768 ∨ 32767 < x) :
    elemEncode (.sva x) = .error (rangeErr .sva .value) :=
  if_pos (by rw [fitsSigned_sixteen]; omega)

/-! ### The little-endian numbers (R134, R136) -/

theorem elemDecode_r32 (b0 b1 b2 b3 : Byte) :
    elemDecode .r32 [b0, b1, b2, b3] = .ok (.r32 (b3 ++ b2 ++ b1 ++ b0).toNat) := by
  rw [elemDecode, r32Dec, leNat_four]; rfl

theorem elemEncode_r32 {v : Nat} (hv : v < 2 ^ 32) : ∃ b0 b1 b2 b3 : Byte,
    elemEncode (.r32 v) = .ok [b0, b1, b2, b3] ∧ (b3 ++ b2 ++ b1 ++ b0).toNat = v := by
  obtain ⟨b0, b1, b2, b3, henc⟩ : ∃ b0 b1 b2 b3, elemEncode (.r32 v) = .ok [b0, b1, b2, b3] :=
    ⟨_, _, _, _, if_neg (Nat.not_le.2 hv)⟩
  exact ⟨b0, b1, b2, b3, henc, ElemV.r32.inj (eq_of_encode_of_decode henc (elemDecode_r32 b0 b1 b2 b3))⟩

theorem elemDecode_bcr (b0 b1 b2 b3 b : Byte) : elemDecode .bcr [b0, b1, b2, b3, b] = .ok (.bcr
    { counter := (b3 ++ b2 ++ b1 ++ b0).toInt, sq := bits b 0 5, cy := b.getLsbD 5, ca := b.getLsbD 6,
      iv := b.getLsbD 7 }) := by
  simp only [elemDecode, bcrDec, leNat_four, field_toNat, flag_toNat, ← sext_toNat]; rfl

theorem elemEncode_bcr {v : BCR} (hlow : -2 ^ 31 ≤ v.counter) (hhigh : v.counter < 2 ^ 31) (hsq : v.sq < 32) :
    ∃ b0 b1 b2 b3 b : Byte, elemEncode (.bcr v) = .ok [b0, b1, b2, b3, b] ∧
      (b3 ++ b2 ++ b1 ++ b0).toInt = v.counter ∧ bits b 0 5 = v.sq ∧ b.getLsbD 5 = v.cy ∧ b.getLsbD 6 = v.ca ∧
      b.getLsbD 7 = v.iv := by
  obtain ⟨b0, b1, b2, b3, b, henc⟩ : ∃ b0 b1 b2 b3 b, elemEncode (.bcr v) = .ok [b0, b1, b2, b3, b] :=
    ⟨_, _, _, _, _, (if_neg (not_not.2 (fitsSigned_thirtyTwo.2 ⟨hlow, hhigh⟩))).trans (if_neg (Nat.not_le.2 hsq))⟩
  cases eq_of_encode_of_decode henc (elemDecode_bcr b0 b1 b2 b3 b)
  exact ⟨b0, b1, b2, b3, b, henc, rfl, rfl, rfl, rfl, rfl⟩

theorem elemEncode_bcr_of_not_inRange {v : BCR} (h : v.counter < -2 ^ 31 ∨ 2 ^ 31 ≤ v.counter ∨ 32 ≤ v.sq) :
    ∃ f : SubField, (f = .counter ∧ (v.counter < -2 ^ 31 ∨ 2 ^ 31 ≤ v.counter) ∨ f = .sq ∧ 32 ≤ v.sq) ∧
      elemEncode (.bcr v) = .error (rangeErr .bcr f) := by
  by_cases hfits : fitsSigned 32 v.counter = true
  · have hcounter := fitsSigned_thirtyTwo.1 hfits
    have hsq : 32 ≤ v.sq := by omega
    exact ⟨.sq, .inr ⟨rfl, hsq⟩, (if_neg (not_not.2 hfits)).trans (if_pos hsq)⟩
  · have hcounter : v.counter < -2 ^ 31 ∨ 2 ^ 31 ≤ v.counter := by rw [fitsSigned_thirtyTwo] at hfits; omega
    exact ⟨.counter, .inl ⟨rfl, hcounter⟩, if_pos hfits⟩

/-- Settles O3: the clauses of each element in turn, its M11 from the contract of all elements. -/
theorem valueElementsCodec : Obligations.ValueElementsCodec :=
  ⟨elemDecode_nva, fun _ => elemEncode_nva, fun _ => elemEncode_nva_of_not_inRange, elemDecode_of_length_ne .nva,
    elemDecode_sva, fun _ => elemEncode_sva, fun _ => elemEncode_sva_of_not_inRange, elemDecode_of_length_ne .sva,
    elemDecode_r32, fun _ => elemEncode_r32, fun _ hv => if_pos hv, elemDecode_of_length_ne .r32,
    elemDecode_bcr, fun _ => elemEncode_bcr, fun _ => elemEncode_bcr_of_not_inRange, elemDecode_of_length_ne .bcr⟩

/-! ### What a decoded value of an element without reserved bits encodes to -/

theorem elemEncode_of_elemDecode {e : Elem} {S : Span} {v : ElemV} (hres : reserved e = [])
    (hdec : elemDecode e S = .ok v) : elemEncode v = .ok S := by
  rw [(elemLaws e).elemEncode_of_decode hdec, clearReserved_of_nil hres]

section
variable {S : Span} {raw : Int} (hdec : elemDecode .nva S = .ok (.nva raw))
include hdec

/-- The encoder turns every other number away. -/
theorem nva_inRange_of_elemDecode : -32768 ≤ raw ∧ raw ≤ 32767 := by
  by_contra hrange
  have henc := elemEncode_of_elemDecode rfl hdec
  rw [elemEncode_nva_of_not_inRange (by omega)] at henc
  cases henc

/-- The lowest raw value has one span, what it encodes to. -/
theorem nva_eq_min_iff_of_elemDecode : raw = -32768 ↔ S = [0x80, 0x00] := by
  constructor
  · rintro rfl
    have hmin : elemEncode (.nva (-32768)) = .ok [0x80, 0x00] := by decide
    exact Except.ok.inj ((elemEncode_of_elemDecode rfl hdec).symm.trans hmin)
  · rintro rfl
    rw [elemDecode_nva] at hdec
    exact (ElemV.nva.inj (Except.ok.inj hdec)).symm

end

theorem ms_lt_of_elemDecode_cp16 {S : Span} {v : CP16} (hdec : elemDecode .cp16 S = .ok (.cp16 v)) :
    v.ms < 2 ^ 16 := by
  by_contra hms
  have henc := elemEncode_of_elemDecode rfl hdec
  rw [show elemEncode (.cp16 v) = .error (rangeErr .cp16 .ms) from if_pos (Nat.not_lt.1 hms)] at henc
  cases henc

/-! ### The exact numbers (R138, R187) -/

theorem nvaValue_mul (raw : Int) : nvaValue raw * 2 ^ 15 = raw := div_mul_cancel₀ _ (by norm_num)

theorem neg_one_le_nvaValue {raw : Int} (h : -32768 ≤ raw) : -1 ≤ nvaValue raw := by
  have hraw : (-32768 : Rat) ≤ raw := by exact_mod_cast h
  linarith [nvaValue_mul raw]

theorem nvaValue_le {raw : Int} (h : raw ≤ 32767) : nvaValue raw ≤ 1 - 1 / 2 ^ 15 := by
  have hraw : (raw : Rat) ≤ 32767 := by exact_mod_cast h
  linarith [nvaValue_mul raw]

theorem nvaValue_eq_neg_one_iff {raw : Int} : nvaValue raw = -1 ↔ raw = -32768 := by
  rw [nvaValue, div_eq_iff (by norm_num), ← Int.cast_inj (α := Rat)]
  norm_num

theorem secondsOf_mul (ms : Nat) : secondsOf ms * 1000 = ms := div_mul_cancel₀ _ (by norm_num)

theorem secondsOf_nonneg (ms : Nat) : 0 ≤ secondsOf ms := div_nonneg ms.cast_nonneg (by norm_num)

theorem secondsOf_le {ms : Nat} (h : ms < 2 ^ 16) : secondsOf ms ≤ 65535 / 1000 := by
  have hms : (ms : Rat) ≤ 65535 := by exact_mod_cast Nat.le_of_lt_succ h
  exact div_le_div_of_nonneg_right hms (by norm_num)

/-- Settles O10: the bounds are those of the raw numbers the decoders give, and -1 is the lowest raw value. -/
theorem exactInterpretations : Obligations.ExactInterpretations := by
  refine ⟨fun S raw hdec => ?_, fun S v hdec =>
    ⟨secondsOf_mul v.ms, secondsOf_nonneg v.ms, secondsOf_le (ms_lt_of_elemDecode_cp16 hdec)⟩⟩
  obtain ⟨hlow, hhigh⟩ := nva_inRange_of_elemDecode hdec
  exact ⟨nvaValue_mul raw, neg_one_le_nvaValue hlow, nvaValue_le hhigh,
    nvaValue_eq_neg_one_iff.trans (nva_eq_min_iff_of_elemDecode hdec)⟩

end Sys2Proof
end

section
/-! PROOFS of the statements about the command and system qualifiers (42_elem_commands R141 to R152) and about the elements
that are one number, of 42_elem_commands and of 43_elem_file (R160 to R168). A qualifier is settled as a status element is:
its decoder is said in bits, and the encoded byte is read off that decoder. A number element has one of three shapes, of
one, two or three bytes, and what its encoder writes is said once of each shape. -/
namespace Sys2Proof
open Sys2Proof.Machine Sys2Proof.Claims

/-! ### The checks of an encoder with two fields (R101) -/

/-- X1 of the first field that does not fit. -/
theorem checked_eq_rangeErr_of_two {e : Elem} {f g : SubField} {m n x y : Nat} {out : Span} (h : m ≤ x ∨ n ≤ y) :
    ∃ k : SubField, (k = f ∧ m ≤ x ∨ k = g ∧ n ≤ y) ∧
      checked e [(f, m, x), (g, n, y)] out = .error (rangeErr e k) := by
  by_cases hx : m ≤ x
  · exact ⟨f, .inl ⟨rfl, hx⟩, if_pos hx⟩
  · have hy := h.resolve_left hx
    exact ⟨g, .inr ⟨rfl, hy⟩, (if_neg hx).trans (if_pos hy)⟩

/-! ### The command qualifiers (R141 to R143) -/

theorem elemDecode_sco (b : Byte) : elemDecode .sco [b] = .ok (.sco
    { scs := b.getLsbD 0, qu := bits b 2 5, se := b.getLsbD 7 }) := by
  simp only [elemDecode, scoDec, field_toNat, flag_toNat]; rfl

theorem elemEncode_sco {v : SCO} (hqu : v.qu < 32) : ∃ b : Byte, elemEncode (.sco v) = .ok [b] ∧
    b.getLsbD 0 = v.scs ∧ bits b 2 5 = v.qu ∧ b.getLsbD 7 = v.se ∧ b.getLsbD 1 = false := by
  obtain ⟨b, henc⟩ : ∃ b, elemEncode (.sco v) = .ok [b] := ⟨_, if_neg (Nat.not_le.2 hqu)⟩
  have hzero := getLsbD_of_encode rfl henc
  cases eq_of_encode_of_decode henc (elemDecode_sco b)
  exact ⟨b, henc, rfl, rfl, rfl, hzero 1 (by decide)⟩

theorem elemDecode_dco (b : Byte) : elemDecode .dco [b] = .ok (.dco
    { dcs := bits b 0 2, qu := bits b 2 5, se := b.getLsbD 7 }) := by
  simp only [elemDecode, dcoDec, field_toNat, flag_toNat]; rfl

theorem elemEncode_dco {v : DCO} (hdcs : v.dcs < 4) (hqu : v.qu < 32) : ∃ b : Byte, elemEncode (.dco v) = .ok [b] ∧
    bits b 0 2 = v.dcs ∧ bits b 2 5 = v.qu ∧ b.getLsbD 7 = v.se := by
  obtain ⟨b, henc⟩ : ∃ b, elemEncode (.dco v) = .ok [b] :=
    ⟨_, (if_neg (Nat.not_le.2 hdcs)).trans (if_neg (Nat.not_le.2 hqu))⟩
  cases eq_of_encode_of_decode henc (elemDecode_dco b)
  exact ⟨b, henc, rfl, rfl, rfl⟩

theorem elemDecode_rco (b : Byte) : elemDecode .rco [b] = .ok (.rco
    { rcs := bits b 0 2, qu := bits b 2 5, se := b.getLsbD 7 }) := by
  simp only [elemDecode, rcoDec, field_toNat, flag_toNat]; rfl

theorem elemEncode_rco {v : RCO} (hrcs : v.rcs < 4) (hqu : v.qu < 32) : ∃ b : Byte, elemEncode (.rco v) = .ok [b] ∧
    bits b 0 2 = v.rcs ∧ bits b 2 5 = v.qu ∧ b.getLsbD 7 = v.se := by
  obtain ⟨b, henc⟩ : ∃ b, elemEncode (.rco v) = .ok [b] :=
    ⟨_, (if_neg (Nat.not_le.2 hrcs)).trans (if_neg (Nat.not_le.2 hqu))⟩
  cases eq_of_encode_of_decode henc (elemDecode_rco b)
  exact ⟨b, henc, rfl, rfl, rfl⟩

/-! ### The system qualifiers with fields (R144, R146, R147, R150) -/

theorem elemDecode_qos (b : Byte) : elemDecode .qos [b] = .ok (.qos { ql := bits b 0 7, se := b.getLsbD 7 }) := by
  simp only [elemDecode, qosDec, field_toNat, flag_toNat]; rfl

theorem elemEncode_qos {v : QOS} (hql : v.ql < 128) : ∃ b : Byte, elemEncode (.qos v) = .ok [b] ∧
    bits b 0 7 = v.ql ∧ b.getLsbD 7 = v.se := by
  obtain ⟨b, henc⟩ : ∃ b, elemEncode (.qos v) = .ok [b] := ⟨_, if_neg (Nat.not_le.2 hql)⟩
  cases eq_of_encode_of_decode henc (elemDecode_qos b)
  exact ⟨b, henc, rfl, rfl⟩

theorem elemDecode_qcc (b : Byte) : elemDecode .qcc [b] = .ok (.qcc { rqt := bits b 0 6, frz := bits b 6 2 }) := by
  simp only [elemDecode, qccDec, field_toNat]; rfl

theorem elemEncode_qcc {v : QCC} (hrqt : v.rqt < 64) (hfrz : v.frz < 4) : ∃ b : Byte, elemEncode (.qcc v) = .ok [b] ∧
    bits b 0 6 = v.rqt ∧ bits b 6 2 = v.frz := by
  obtain ⟨b, henc⟩ : ∃ b, elemEncode (.qcc v) = .ok [b] :=
    ⟨_, (if_neg (Nat.not_le.2 hrqt)).trans (if_neg (Nat.not_le.2 hfrz))⟩
  cases eq_of_encode_of_decode henc (elemDecode_qcc b)
  exact ⟨b, henc, rfl, rfl⟩

theorem elemDecode_qpm (b : Byte) : elemDecode .qpm [b] = .ok (.qpm
    { kpa := bits b 0 6, lpc := b.getLsbD 6, pop := b.getLsbD 7 }) := by
  simp only [elemDecode, qpmDec, field_toNat, flag_toNat]; rfl

theorem elemEncode_qpm {v : QPM} (hkpa : v.kpa < 64) : ∃ b : Byte, elemEncode (.qpm v) = .ok [b] ∧
    bits b 0 6 = v.kpa ∧ b.getLsbD 6 = v.lpc ∧ b.getLsbD 7 = v.pop := by
  obtain ⟨b, henc⟩ : ∃ b, elemEncode (.qpm v) = .ok [b] := ⟨_, if_neg (Nat.not_le.2 hkpa)⟩
  cases eq_of_encode_of_decode henc (elemDecode_qpm b)
  exact ⟨b, henc, rfl, rfl, rfl⟩

theorem elemDecode_coi (b : Byte) : elemDecode .coi [b] = .ok (.coi { cause := bits b 0 7, bs1 := b.getLsbD 7 }) := by
  simp only [elemDecode, coiDec, field_toNat, flag_toNat]; rfl

theorem elemEncode_coi {v : COI} (hcause : v.cause < 128) : ∃ b : Byte, elemEncode (.coi v) = .ok [b] ∧
    bits b 0 7 = v.cause ∧ b.getLsbD 7 = v.bs1 := by
  obtain ⟨b, henc⟩ : ∃ b, elemEncode (.coi v) = .ok [b] := ⟨_, if_neg (Nat.not_le.2 hcause)⟩
  cases eq_of_encode_of_decode henc (elemDecode_coi b)
  exact ⟨b, henc, rfl, rfl⟩

/-- Settles O4: the clauses of each element in turn, its M11 from the contract of all elements. -/
theorem commandElementsCodec : Obligations.CommandElementsCodec :=
  ⟨elemDecode_sco, fun _ => elemEncode_sco, fun _ hqu => if_pos hqu, elemDecode_of_length_ne .sco,
    elemDecode_dco, fun _ => elemEncode_dco, fun _ => checked_eq_rangeErr_of_two, elemDecode_of_length_ne .dco,
    elemDecode_rco, fun _ => elemEncode_rco, fun _ => checked_eq_rangeErr_of_two, elemDecode_of_length_ne .rco,
    elemDecode_qos, fun _ => elemEncode_qos, fun _ hql => if_pos hql, elemDecode_of_length_ne .qos,
    elemDecode_qcc, fun _ => elemEncode_qcc, fun _ => checked_eq_rangeErr_of_two, elemDecode_of_length_ne .qcc,
    elemDecode_qpm, fun _ => elemEncode_qpm, fun _ hkpa => if_pos hkpa, elemDecode_of_length_ne .qpm,
    elemDecode_coi, fun _ => elemEncode_coi, fun _ hcause => if_pos hcause, elemDecode_of_length_ne .coi⟩

/-! ### The shapes of number elements (R145, R151, R162) -/

theorem leNat_three (b0 b1 b2 : Byte) : leNat [b0, b1, b2] = (b2 ++ b1 ++ b0).toNat := by
  simp [leNat, toNat_append_byte]

section
variable {e : Elem} {inj : Nat → ElemV}

theorem elemEncode_of_wholeByte (encode : ∀ n, elemEncode (inj n) = checked e [(.value, 2 ^ 8, n)] [byte n]) (v : Nat)
    (hv : v < 2 ^ 8) : ∃ b0 : Byte, elemEncode (inj v) = .ok [b0] ∧ b0.toNat = v :=
  ⟨byte v, (encode v).trans (if_neg (Nat.not_le.2 hv)), (toNat_byte v).trans (Nat.mod_eq_of_lt hv)⟩

theorem elemDecode_of_leTwo (decode : ∀ b0 b1, elemDecode e [b0, b1] = .ok (inj (leNat [b0, b1]))) (b0 b1 : Byte) :
    elemDecode e [b0, b1] = .ok (inj (b1 ++ b0).toNat) := by rw [decode, leNat_two]

theorem elemEncode_of_leTwo (encode : ∀ n, elemEncode (inj n) = checked e [(.value, 2 ^ 16, n)] (leBytes 2 n)) (v : Nat)
    (hv : v < 2 ^ 16) : ∃ b0 b1 : Byte, elemEncode (inj v) = .ok [b0, b1] ∧ (b1 ++ b0).toNat = v :=
  ⟨_, _, (encode v).trans (if_neg (Nat.not_le.2 hv)), (leNat_two _ _).symm.trans (leNat_leBytes (k := 2) hv)⟩

end

/-! ### The length of a file (R162) -/

theorem elemDecode_lof (b0 b1 b2 : Byte) : elemDecode .lof [b0, b1, b2] = .ok (.lof (b2 ++ b1 ++ b0).toNat) := by
  rw [elemDecode, lofDec, leNat_three]; rfl

theorem elemEncode_lof {v : Nat} (hv : v < 2 ^ 24) : ∃ b0 b1 b2 : Byte,
    elemEncode (.lof v) = .ok [b0, b1, b2] ∧ (b2 ++ b1 ++ b0).toNat = v :=
  ⟨_, _, _, if_neg (Nat.not_le.2 hv), (leNat_three _ _ _).symm.trans (leNat_leBytes (k := 3) hv)⟩

/-- Settles O5: each element is of its shape by its definition, its M11 from the contract of all elements. -/
theorem numberElementsCodec : Obligations.NumberElementsCodec :=
  ⟨fun _ => rfl, elemEncode_of_wholeByte fun _ => rfl, fun _ hv => if_pos hv, elemDecode_of_length_ne .qoi,
    fun _ => rfl, elemEncode_of_wholeByte fun _ => rfl, fun _ hv => if_pos hv, elemDecode_of_length_ne .qpa,
    fun _ => rfl, elemEncode_of_wholeByte fun _ => rfl, fun _ hv => if_pos hv, elemDecode_of_length_ne .qrp,
    fun _ => rfl, elemEncode_of_wholeByte fun _ => rfl, fun _ hv => if_pos hv, elemDecode_of_length_ne .nos,
    fun _ => rfl, elemEncode_of_wholeByte fun _ => rfl, fun _ hv => if_pos hv, elemDecode_of_length_ne .los,
    fun _ => rfl, elemEncode_of_wholeByte fun _ => rfl, fun _ hv => if_pos hv, elemDecode_of_length_ne .chs,
    fun _ => rfl, elemEncode_of_wholeByte fun _ => rfl, fun _ hv => if_pos hv, elemDecode_of_length_ne .lsq,
    elemDecode_of_leTwo fun _ _ => rfl, elemEncode_of_leTwo fun _ => rfl, fun _ hv => if_pos hv,
    elemDecode_of_length_ne .fbp,
    elemDecode_of_leTwo fun _ _ => rfl, elemEncode_of_leTwo fun _ => rfl, fun _ hv => if_pos hv,
    elemDecode_of_length_ne .tsc,
    elemDecode_of_leTwo fun _ _ => rfl, elemEncode_of_leTwo fun _ => rfl, fun _ hv => if_pos hv,
    elemDecode_of_length_ne .nof,
    elemDecode_lof, fun _ => elemEncode_lof, fun _ hv => if_pos hv, elemDecode_of_length_ne .lof⟩

end Sys2Proof
end

section
/-! PROOFS of the statement about the file qualifiers (43_elem_file R165 to R170). FRQ and SRQ share one shape, a code of
seven bits under a flag, and SCQ and AFQ another, a code and an error of four bits each: what a codec of a shape does is
said once of the shape. SOF is settled as a status element is. -/
namespace Sys2Proof
open Sys2Proof.Machine Sys2Proof.Claims

section
variable {e : Elem} {v : ElemV}

/-! ### A code of seven bits and a flag in bit 7 (R165, R166) -/

theorem elemDecode_of_code7_flag {inj : Nat → Bool → ElemV}
    (decode : ∀ b : Byte, elemDecode e [b] = .ok (inj (field b.toNat 0 7) (flag b.toNat 7))) (b : Byte) :
    elemDecode e [b] = .ok (inj (bits b 0 7) (b.getLsbD 7)) := by rw [decode, field_toNat, flag_toNat]

theorem elemEncode_of_code7_flag {f : SubField} {code : Nat} {p : Bool}
    (encode : elemEncode v = checked e [(f, 128, code)] [byte (put 0 7 code ||| putFlag 7 p)]) (hcode : code < 128) :
    ∃ b : Byte, elemEncode v = .ok [b] ∧ bits b 0 7 = code ∧ b.getLsbD 7 = p := by
  refine ⟨_, encode.trans (if_neg (Nat.not_le.2 hcode)), ?_, ?_⟩
  · simp [← field_toNat, hcode, field_put]
  · rw [← flag_toNat]
    simp [hcode]

/-! ### A code and an error of four bits each (R167, R169) -/

theorem elemDecode_of_nibbles {inj : Nat → Nat → ElemV}
    (decode : ∀ b : Byte, elemDecode e [b] = .ok (inj (field b.toNat 0 4) (field b.toNat 4 4))) (b : Byte) :
    elemDecode e [b] = .ok (inj (bits b 0 4) (bits b 4 4)) := by rw [decode, field_toNat, field_toNat]

theorem elemEncode_of_nibbles {f g : SubField} {code err : Nat}
    (encode : elemEncode v = checked e [(f, 16, code), (g, 16, err)] [byte (put 0 4 code ||| put 4 4 err)])
    (hcode : code < 16) (herr : err < 16) :
    ∃ b : Byte, elemEncode v = .ok [b] ∧ bits b 0 4 = code ∧ bits b 4 4 = err := by
  refine ⟨_, encode.trans ((if_neg (Nat.not_le.2 hcode)).trans (if_neg (Nat.not_le.2 herr))), ?_, ?_⟩
  · simp [← field_toNat, hcode, herr, field_put]
  · simp [← field_toNat, hcode, herr, field_put]

end

/-! ### The status of a file (R170) -/

theorem elemDecode_sof (b : Byte) : elemDecode .sof [b] = .ok (.sof
    { status := bits b 0 5, lfd := b.getLsbD 5, forDir := b.getLsbD 6, fa := b.getLsbD 7 }) := by
  simp only [elemDecode, sofDec, field_toNat, flag_toNat]; rfl

theorem elemEncode_sof {v : SOF} (hstatus : v.status < 32) : ∃ b : Byte, elemEncode (.sof v) = .ok [b] ∧
    bits b 0 5 = v.status ∧ b.getLsbD 5 = v.lfd ∧ b.getLsbD 6 = v.forDir ∧ b.getLsbD 7 = v.fa := by
  obtain ⟨b, henc⟩ : ∃ b, elemEncode (.sof v) = .ok [b] := ⟨_, if_neg (Nat.not_le.2 hstatus)⟩
  cases eq_of_encode_of_decode henc (elemDecode_sof b)
  exact ⟨b, henc, rfl, rfl, rfl, rfl⟩

/-- Settles O6: each qualifier but SOF is of its shape by its definition, its M11 from the contract of all elements. -/
theorem fileQualifiersCodec : Obligations.FileQualifiersCodec :=
  ⟨elemDecode_of_code7_flag (inj := fun code neg => .frq ⟨code, neg⟩) fun _ => rfl,
    fun _ => elemEncode_of_code7_flag rfl, fun _ hcode => if_pos hcode, elemDecode_of_length_ne .frq,
    elemDecode_of_code7_flag (inj := fun code notReady => .srq ⟨code, notReady⟩) fun _ => rfl,
    fun _ => elemEncode_of_code7_flag rfl, fun _ hcode => if_pos hcode, elemDecode_of_length_ne .srq,
    elemDecode_of_nibbles (inj := fun code err => .scq ⟨code, err⟩) fun _ => rfl,
    fun _ => elemEncode_of_nibbles rfl, fun _ => checked_eq_rangeErr_of_two, elemDecode_of_length_ne .scq,
    elemDecode_of_nibbles (inj := fun code err => .afq ⟨code, err⟩) fun _ => rfl,
    fun _ => elemEncode_of_nibbles rfl, fun _ => checked_eq_rangeErr_of_two, elemDecode_of_length_ne .afq,
    elemDecode_sof, fun _ => elemEncode_sof, fun _ hstatus => if_pos hstatus, elemDecode_of_length_ne .sof⟩

end Sys2Proof
end

section
/-! PROOFS of the statement about the time tags (44_elem_time R180 to R184). A tag is settled as a status element is: its
decoder is said in bits for every span of its width, calendar or not, and the encoded bytes are read off that decoder. -/
namespace Sys2Proof
open Sys2Proof.Machine Sys2Proof.Claims

/-! ### The checks of an encoder with any number of fields (R101) -/

/-- X1 of the first field that does not fit. -/
theorem checked_eq_rangeErr {e : Elem} {checks : List (SubField × Nat × Nat)} {out : Span}
    (h : ∃ c ∈ checks, c.2.1 ≤ c.2.2) :
    ∃ f, (∃ c ∈ checks, f = c.1 ∧ c.2.1 ≤ c.2.2) ∧ checked e checks out = .error (rangeErr e f) := by
  induction checks with
  | nil => simp at h
  | cons c checks ih =>
    by_cases hc : c.2.1 ≤ c.2.2
    · exact ⟨c.1, ⟨c, List.mem_cons_self, rfl, hc⟩, if_pos hc⟩
    · obtain ⟨f, ⟨d, hd, hf⟩, hrest⟩ := ih ((List.exists_mem_cons_iff _ _ _).1 h |>.resolve_left hc)
      exact ⟨f, ⟨d, List.mem_cons_of_mem c hd, hf⟩, (if_neg hc).trans hrest⟩

/-! ### Bits under a mask (R87) -/

theorem getLsbD_of_and_eq_zero {b m : Byte} (hzero : b &&& m = 0) (i : Nat) (hi : m.getLsbD i = true) :
    b.getLsbD i = false := by
  simpa [hi] using congrArg (·.getLsbD i) hzero

/-- A bit slice that lies wholly under the mask. -/
theorem bits_of_and_eq_zero {b m : Byte} (hzero : b &&& m = 0) (lo w : Nat)
    (hm : m.extractLsb' lo w = BitVec.allOnes w) : bits b lo w = 0 := by
  have hslice : b.extractLsb' lo w &&& BitVec.allOnes w = 0#w := by
    rw [← hm, ← BitVec.extractLsb'_and, hzero]
    exact BitVec.extractLsb'_zero
  rw [BitVec.and_allOnes] at hslice
  rw [bits, hslice, BitVec.toNat_ofNat, Nat.zero_mod]

/-! ### CP16Time2a and CP24Time2a (R180, R182) -/

theorem elemDecode_cp16 (b0 b1 : Byte) : elemDecode .cp16 [b0, b1] = .ok (.cp16 { ms := (b1 ++ b0).toNat }) := by
  rw [elemDecode, cp16Dec, leNat_two]; rfl

theorem elemEncode_cp16 {v : CP16} (hms : v.ms < 2 ^ 16) : ∃ b0 b1 : Byte,
    elemEncode (.cp16 v) = .ok [b0, b1] ∧ (b1 ++ b0).toNat = v.ms := by
  obtain ⟨b0, b1, henc⟩ : ∃ b0 b1, elemEncode (.cp16 v) = .ok [b0, b1] := ⟨_, _, if_neg (Nat.not_le.2 hms)⟩
  cases eq_of_encode_of_decode henc (elemDecode_cp16 b0 b1)
  exact ⟨b0, b1, henc, rfl⟩

/-- The fields of CP24Time2a in bits; CP56Time2a begins with them. -/
theorem cp24Of_eq_bits (b0 b1 b : Byte) :
    cp24Of b0 b1 b = { ms := (b1 ++ b0).toNat, min := bits b 0 6, iv := b.getLsbD 7 } := by
  rw [cp24Of, leNat_two, field_toNat, flag_toNat]

theorem elemDecode_cp24 (b0 b1 b : Byte) : elemDecode .cp24 [b0, b1, b] =
    .ok (.cp24 { ms := (b1 ++ b0).toNat, min := bits b 0 6, iv := b.getLsbD 7 }) := by
  rw [elemDecode, cp24Dec, cp24Of_eq_bits]; rfl

theorem elemEncode_cp24 {v : CP24} (hms : v.ms < 2 ^ 16) (hmin : v.min < 64) : ∃ b0 b1 b : Byte,
    elemEncode (.cp24 v) = .ok [b0, b1, b] ∧
      (b1 ++ b0).toNat = v.ms ∧ bits b 0 6 = v.min ∧ b.getLsbD 7 = v.iv ∧ b.getLsbD 6 = false := by
  obtain ⟨b0, b1, b, henc⟩ : ∃ b0 b1 b, elemEncode (.cp24 v) = .ok [b0, b1, b] :=
    ⟨_, _, _, (if_neg (Nat.not_le.2 hms)).trans (if_neg (Nat.not_le.2 hmin))⟩
  have hzero : b &&& 0x40 = 0 := elemLaws_cp24.reservedZero_of_encode rfl henc 2
  cases eq_of_encode_of_decode henc (elemDecode_cp24 b0 b1 b)
  exact ⟨b0, b1, b, henc, rfl, rfl, rfl, getLsbD_of_and_eq_zero hzero 6 (by decide)⟩

/-! ### CP56Time2a (R184) -/

theorem elemDecode_cp56 (b0 b1 b h d mo y : Byte) : elemDecode .cp56 [b0, b1, b, h, d, mo, y] = .ok (.cp56
    { ms := (b1 ++ b0).toNat, min := bits b 0 6, iv := b.getLsbD 7, hour := bits h 0 5, su := h.getLsbD 7,
      day := bits d 0 5, dow := bits d 5 3, month := bits mo 0 4, year := bits y 0 7 }) := by
  simp only [elemDecode, cp56Dec, cp24Of_eq_bits, field_toNat, flag_toNat]; rfl

theorem elemEncode_cp56 {v : CP56} (hms : v.ms < 2 ^ 16) (hmin : v.min < 64) (hhour : v.hour < 32) (hday : v.day < 32)
    (hdow : v.dow < 8) (hmonth : v.month < 16) (hyear : v.year < 128) :
    ∃ b0 b1 b h d mo y : Byte, elemEncode (.cp56 v) = .ok [b0, b1, b, h, d, mo, y] ∧
      (b1 ++ b0).toNat = v.ms ∧ bits b 0 6 = v.min ∧ b.getLsbD 6 = false ∧ b.getLsbD 7 = v.iv ∧
      bits h 0 5 = v.hour ∧ bits h 5 2 = 0 ∧ h.getLsbD 7 = v.su ∧ bits d 0 5 = v.day ∧ bits d 5 3 = v.dow ∧
      bits mo 0 4 = v.month ∧ bits mo 4 4 = 0 ∧ bits y 0 7 = v.year ∧ y.getLsbD 7 = false := by
  obtain ⟨b0, b1, b, h, d, mo, y, henc⟩ :
      ∃ b0 b1 b h d mo y, elemEncode (.cp56 v) = .ok [b0, b1, b, h, d, mo, y] :=
    ⟨_, _, _, _, _, _, _, (checked_eq_ok (e := .cp56) (checks := cp56Checks v)).2
      ⟨⟨hms, hmin, hhour, hday, hdow, hmonth, hyear, trivial⟩, rfl⟩⟩
  have hzero : ReservedZero .cp56 [b0, b1, b, h, d, mo, y] := elemLaws_cp56.reservedZero_of_encode rfl henc
  have hb : b &&& 0x40 = 0 := hzero 2
  have hh : h &&& 0x60 = 0 := hzero 3
  have hmo : mo &&& 0xF0 = 0 := hzero 5
  have hy : y &&& 0x80 = 0 := hzero 6
  cases eq_of_encode_of_decode henc (elemDecode_cp56 b0 b1 b h d mo y)
  exact ⟨b0, b1, b, h, d, mo, y, henc, rfl, rfl, getLsbD_of_and_eq_zero hb 6 (by decide), rfl, rfl,
    bits_of_and_eq_zero hh 5 2 (by decide), rfl, rfl, rfl, rfl, bits_of_and_eq_zero hmo 4 4 (by decide), rfl,
    getLsbD_of_and_eq_zero hy 7 (by decide)⟩

/-- The disjunctions are those of membership in the list of checks. -/
theorem elemEncode_cp56_of_not_inRange {v : CP56}
    (h : 2 ^ 16 ≤ v.ms ∨ 64 ≤ v.min ∨ 32 ≤ v.hour ∨ 32 ≤ v.day ∨ 8 ≤ v.dow ∨ 16 ≤ v.month ∨ 128 ≤ v.year) :
    ∃ f : SubField, (f = .ms ∧ 2 ^ 16 ≤ v.ms ∨ f = .min ∧ 64 ≤ v.min ∨ f = .hour ∧ 32 ≤ v.hour ∨
      f = .day ∧ 32 ≤ v.day ∨ f = .dow ∧ 8 ≤ v.dow ∨ f = .month ∧ 16 ≤ v.month ∨ f = .year ∧ 128 ≤ v.year) ∧
      elemEncode (.cp56 v) = .error (rangeErr .cp56 f) := by
  have hout : ∃ c ∈ cp56Checks v, c.2.1 ≤ c.2.2 := by simpa [cp56Checks] using h
  obtain ⟨f, hf, henc⟩ := checked_eq_rangeErr (e := .cp56) (out := cp24Bytes v.toCP24 ++ cp56Tail v) hout
  exact ⟨f, by simpa [cp56Checks] using hf, henc⟩

/-- Settles O7: the clauses of each time tag in turn, its M11 from the contract of all elements. -/
theorem timeTagsCodec : Obligations.TimeTagsCodec :=
  ⟨elemDecode_cp16, fun _ => elemEncode_cp16, fun _ hms => if_pos hms, elemDecode_of_length_ne .cp16,
    elemDecode_cp24, fun _ => elemEncode_cp24, fun _ => checked_eq_rangeErr_of_two, elemDecode_of_length_ne .cp24,
    elemDecode_cp56, fun _ => elemEncode_cp56, fun _ => elemEncode_cp56_of_not_inRange, elemDecode_of_length_ne .cp56⟩

end Sys2Proof
end

section
/-! PROOFS of the statements about the dispatch by type identifier (45_type_dispatch R190 to R260) and about which
operations are answered. `ELEM_DEC` and `ELEM_ENC` are loops over the elements of a layout: what the loops do is said
once for every layout, and each of the 66 rows is then a matter of the tables. -/
namespace Sys2Proof
open Sys2Proof.Machine Sys2Proof.Claims

/-! ### The loop of ELEM_ENC (R191) -/

section
variable {f : FieldName} {x : ElemV} {v : Record} {S T out : Span} {e : Err}

theorem encRecord_cons_of_ok (hx : elemEncode x = .ok S) (hv : encRecord v = .ok T) :
    encRecord ((f, x) :: v) = .ok (S ++ T) := by
  simp only [encRecord, hx, hv]; rfl

/-- An element that does not encode ends the loop. -/
theorem encRecord_cons_of_error (hx : elemEncode x = .error e) : encRecord ((f, x) :: v) = .error e := by
  simp only [encRecord, hx]; rfl

/-- An error further on is the loop's. -/
theorem encRecord_cons_of_rest_error (hx : elemEncode x = .ok S) (hv : encRecord v = .error e) :
    encRecord ((f, x) :: v) = .error e := by
  simp only [encRecord, hx, hv]; rfl

theorem encRecord_cons_eq_ok (h : encRecord ((f, x) :: v) = .ok out) :
    ∃ S T, elemEncode x = .ok S ∧ encRecord v = .ok T ∧ out = S ++ T := by
  cases hx : elemEncode x with
  | error e => rw [encRecord_cons_of_error hx] at h; cases h
  | ok S =>
    cases hv : encRecord v with
    | error e => rw [encRecord_cons_of_rest_error hx hv] at h; cases h
    | ok T =>
      rw [encRecord_cons_of_ok hx hv] at h
      exact ⟨S, T, rfl, rfl, (Except.ok.inj h).symm⟩

/-- The loop gives the encodings of the elements in wire order. -/
theorem encRecord_eq_ok_of_encodesTo (h : EncodesTo v out) : encRecord v = .ok out := by
  obtain ⟨parts, hparts, rfl⟩ := h
  induction hparts with
  | nil => rfl
  | cons hx _ ih => exact encRecord_cons_of_ok hx ih

/-- The loop raises the error of the first element that does not encode. -/
theorem encRecord_eq_error_of_firstFails (h : FirstFails v e) : encRecord v = .error e := by
  obtain ⟨pre, f, x, post, rfl, hpre, hx⟩ := h
  induction pre with
  | nil => exact encRecord_cons_of_error hx
  | cons p pre ih =>
    obtain ⟨S, hS⟩ := hpre p List.mem_cons_self
    exact encRecord_cons_of_rest_error hS (ih fun q hq => hpre q (List.mem_cons_of_mem p hq))

end

/-! ### The loop of ELEM_DEC (R190) -/

theorem decFields_cons_of_ok {e : Elem} {f : FieldName} {lay : Layout} {S : Span} {x : ElemV} {v : Record}
    (hx : elemDecode e (S.take (elemWidth e)) = .ok x) (hv : decFields lay (S.drop (elemWidth e)) = .ok v) :
    decFields ((e, f) :: lay) S = .ok ((f, x) :: v) := by
  simp only [decFields, hx, hv]; rfl

/-- The elements of a layout at the byte ranges they take when they stand one after the other from offset lo on. -/
def ranges : Nat → Layout → List (Elem × FieldName × Nat × Nat)
  | _, [] => []
  | lo, (e, f) :: lay => (e, f, lo, lo + elemWidth e) :: ranges (lo + elemWidth e) lay

/-- The loop decodes each element from its own byte range, on every span that is long enough. -/
theorem decFields_of_ranges {S : Span} {lay : Layout} {lo : Nat} (h : lo + layoutWidth lay ≤ S.length) :
    ∃ v, DecodesTo S (ranges lo lay) v ∧ decFields lay (S.drop lo) = .ok v := by
  induction lay generalizing lo with
  | nil => exact ⟨[], trivial, rfl⟩
  | cons c lay ih =>
    obtain ⟨e, f⟩ := c
    simp only [layoutWidth] at h
    have hslice : slice S lo (lo + elemWidth e) = (S.drop lo).take (elemWidth e) := by
      rw [slice, Nat.add_sub_cancel_left]
    have hwidth : ((S.drop lo).take (elemWidth e)).length = elemWidth e := by
      rw [List.length_take, List.length_drop]; omega
    obtain ⟨x, hx, -⟩ := (elemLaws e).encode_decode _ hwidth
    obtain ⟨v, hv, hrest⟩ := ih (lo := lo + elemWidth e) (by omega)
    refine ⟨(f, x) :: v, ⟨rfl, hslice ▸ hx, hv⟩, decFields_cons_of_ok hx ?_⟩
    rwa [List.drop_drop]

/-- A record of the layout that encodes gives a span of the layout's width, and decoding undoes it. -/
theorem decFields_of_encRecord {lay : Layout} {v : Record} {out : Span} (hv : typedRecord lay v = true)
    (henc : encRecord v = .ok out) : out.length = layoutWidth lay ∧ decFields lay out = .ok v := by
  induction lay generalizing v out with
  | nil =>
    cases v with
    | nil => cases henc; exact ⟨rfl, rfl⟩
    | cons => cases hv
  | cons c lay ih =>
    obtain ⟨e, f⟩ := c
    match v with
    | [] => cases hv
    | (g, x) :: v =>
      simp only [typedRecord, Bool.and_eq_true, beq_iff_eq] at hv
      obtain ⟨⟨rfl, rfl⟩, hv⟩ := hv
      obtain ⟨S, T, hx, hrest, rfl⟩ := encRecord_cons_eq_ok henc
      obtain ⟨hT, hdecT⟩ := ih hv hrest
      have hdecS := (elemLaws x.elem).decode_encode x S rfl hx
      have hS : S.length = elemWidth x.elem := (elemLaws x.elem).length_of_decode S x hdecS
      refine ⟨by rw [List.length_append, hS, hT, layoutWidth], decFields_cons_of_ok ?_ ?_⟩
      · rwa [List.take_left' hS]
      · rwa [List.drop_left' hS]

/-! ### ELEM_DEC and ELEM_ENC on the row of a type -/

theorem elemDecRow_of_length {lay : Layout} {S : Span} (t : Byte) (h : S.length = layoutWidth lay) :
    elemDecRow t lay S = decFields lay S := if_neg (not_not.2 h)

/-- M11 with the type and the length (log entry 10). -/
theorem elemDecRow_of_length_ne {lay : Layout} {S : Span} (t : Byte) (h : S.length ≠ layoutWidth lay) :
    elemDecRow t lay S = .error (malformed (.m11 (.type t) S.length)) := if_pos h

/-- The row of the type t with `COMP(t)` = lay, as the two tables have it. -/
structure OnRow (t : Byte) (mk : TypeOp → Instr) (lay : Layout) : Prop where
  row : typeRow t = some mk
  layout : layoutOf t = some lay

namespace OnRow
variable {t : Byte} {mk : TypeOp → Instr} {lay : Layout}

theorem exec_eq (h : OnRow t mk lay) (op : TypeOp) (s : State) : exec (mk op) s = execTypeRow t lay op s := by
  obtain ⟨lay', hlay', -, -, hexec⟩ := typeRow_facts h.row
  cases h.layout.symm.trans hlay'
  exact hexec op s

/-- ELEM_DEC on the row replies with what its span decodes to. -/
theorem elemDec_eq (h : OnRow t mk lay) {S : Span} {r : Except Err Record} (hr : elemDecRow t lay S = r) (s : State) :
    exec (mk (.elemDec S)) s = answer (r.map .elem) s := by
  rw [h.exec_eq, ← hr]; rfl

/-- ELEM_ENC on the row replies with what its record encodes to. -/
theorem elemEnc_eq (h : OnRow t mk lay) {v : Record} {r : Except Err Span} (hr : encRecord v = r) (s : State) :
    exec (mk (.elemEnc v)) s = answer (r.map .bytes) s := by
  rw [h.exec_eq, ← hr]; rfl

end OnRow

/-- An answer of bytes and of nothing else is the value computed. -/
theorem eq_ok_of_answer_bytes {r : Except Err Span} {s : State} {out : Span}
    (h : gives (answer (r.map .bytes) s) s (.bytes out)) : r = .ok out := by
  cases r with
  | ok S => simpa [Except.map, reply_eq] using h
  | error e => simp [Except.map, reply_eq] at h

/-- Settles O19: the record encoded to `out`, and decoding a layout undoes encoding it, element by element. -/
theorem elementValueRoundTrip : Obligations.ElementValueRoundTrip := by
  intro t mk lay v out s hrow hlay htyped hgives
  have hon : OnRow t mk lay := ⟨hrow, hlay⟩
  rw [hon.elemEnc_eq rfl] at hgives
  obtain ⟨hlen, hdec⟩ := decFields_of_encRecord htyped (eq_ok_of_answer_bytes hgives)
  exact ⟨hlen, hon.elemDec_eq ((elemDecRow_of_length t hlen).trans hdec) s⟩

/-! ### The rows of 45_type_dispatch, section 2 (R194 to R259) -/

/-- The row r of 45_type_dispatch is the one the model's tables have for its type identifier: its elements stand one
after the other from offset 0 on, and its width is theirs together (R192). -/
structure AgreesWithTables (r : Row) : Prop where
  row : typeRow r.ti = some r.ctor
  comp : (layoutOf r.ti).map (ranges 0) = some r.comp
  width : (layoutOf r.ti).map layoutWidth = some r.w

theorem hasFields_ranges_iff {lay : Layout} {v : Record} (lo : Nat) :
    HasFields (ranges lo lay) v ↔ typedRecord lay v = true := by
  induction lay generalizing lo v with
  | nil => cases v <;> simp [ranges, HasFields, typedRecord]
  | cons c lay ih =>
    obtain ⟨e, f⟩ := c
    match v with
    | [] => simp [ranges, HasFields, typedRecord]
    | (g, x) :: v => simp [ranges, HasFields, typedRecord, ih, and_assoc, eq_comm (a := g)]

/-- What the tables say of a row is all that its rule needs. -/
theorem rowHolds_of_agreesWithTables {r : Row} (h : AgreesWithTables r) : RowHolds r := by
  obtain ⟨lay, hlay, hcomp⟩ := Option.map_eq_some_iff.1 h.comp
  have hw : layoutWidth lay = r.w := by simpa [hlay] using h.width
  have hon : OnRow r.ti r.ctor lay := ⟨h.row, hlay⟩
  rw [RowHolds, ← hcomp, ← hw]
  refine ⟨decode_encodeType hon.row, fun s => ⟨fun S hS => ?decodes, fun S hS => ?wrongLength,
    fun v out hv henc => ?encodes, fun v e _ hfail => ?fails⟩⟩
  case decodes =>
    obtain ⟨v, hv, hdec⟩ := decFields_of_ranges (S := S) (lay := lay) (lo := 0) (by omega)
    exact ⟨v, hv, hon.elemDec_eq ((elemDecRow_of_length r.ti hS).trans hdec) s⟩
  case wrongLength => exact hon.elemDec_eq (elemDecRow_of_length_ne r.ti hS) s
  case encodes =>
    have hout := encRecord_eq_ok_of_encodesTo henc
    obtain ⟨hlen, -⟩ := decFields_of_encRecord ((hasFields_ranges_iff 0).1 hv) hout
    exact ⟨hlen, hon.elemEnc_eq hout s⟩
  case fails => exact hon.elemEnc_eq (encRecord_eq_error_of_firstFails hfail) s

/-- The rows of a family hold if the columns of the family are those of the tables. -/
theorem rowsHold {rows : List Row} (hctor : rows.map (fun r => typeRow r.ti) = rows.map fun r => some r.ctor)
    (hcomp : rows.map (fun r => (layoutOf r.ti).map (ranges 0)) = rows.map fun r => some r.comp)
    (hw : rows.map (fun r => (layoutOf r.ti).map layoutWidth) = rows.map fun r => some r.w) :
    ∀ r ∈ rows, RowHolds r := fun r hr =>
  rowHolds_of_agreesWithTables
    ⟨List.map_inj_left.1 hctor r hr, List.map_inj_left.1 hcomp r hr, List.map_inj_left.1 hw r hr⟩

/-- Settles O11: the constructors, the byte ranges and the widths of these eleven rows are those of the tables. -/
theorem monitorTypesDispatch : Obligations.MonitorTypesDispatch := rowsHold rfl rfl rfl

/-- Settles O12, as O11: ten rows. -/
theorem furtherMonitorTypesDispatch : Obligations.FurtherMonitorTypesDispatch := rowsHold rfl rfl rfl

/-- Settles O13, as O11: eleven rows. -/
theorem timeTaggedMonitorTypesDispatch : Obligations.TimeTaggedMonitorTypesDispatch := rowsHold rfl rfl rfl

/-- Settles O14, as O11: seven rows. -/
theorem commandTypesDispatch : Obligations.CommandTypesDispatch := rowsHold rfl rfl rfl

/-- Settles O15, as O11: seven rows. -/
theorem timeTaggedCommandTypesDispatch : Obligations.TimeTaggedCommandTypesDispatch := rowsHold rfl rfl rfl

/-- Settles O16, as O11: nine rows, among them type 102 with no element and width 0. -/
theorem systemTypesDispatch : Obligations.SystemTypesDispatch := rowsHold rfl rfl rfl

/-- Settles O17, as O11: eleven rows. -/
theorem parameterAndFileTypesDispatch : Obligations.ParameterAndFileTypesDispatch := rowsHold rfl rfl rfl

/-! ### The type identifiers without a row (R193, R260) -/

/-- The 256 values of the byte, one by one: a type identifier has a row exactly when it is one of the 66 (R84). -/
theorem mem_supported_iff (t : Byte) : t ∈ supported ↔ (typeRow t).isSome := by
  revert t; decide +kernel

theorem layoutOf_of_not_mem_supported {t : Byte} (h : t ∉ supported) : layoutOf t = none := by
  rw [mem_supported_iff, Bool.not_eq_true, Option.isSome_eq_false_iff, Option.isNone_iff_eq_none] at h
  exact (typeRow_none_iff t).1 h

/-- Without a layout ASDU_DEC ends in one of its errors, at the latest in U1 (R278). -/
theorem asduDecWith_none (c : Cfg) (A : Span) : ∃ e, asduDecWith c none A = .error e := by
  unfold asduDecWith
  split
  · exact ⟨_, rfl⟩
  · dsimp only
    split
    · exact ⟨_, rfl⟩
    · generalize areaWidth _ _ _ _ = width
      cases width <;> exact ⟨_, rfl⟩

section
variable {t : Byte} (ht : layoutOf t = none)
include ht

theorem elemDec_of_no_layout (S : Span) : elemDec t S = .error (unknownType t) := by simp [elemDec, ht]

theorem elemEnc_of_no_layout (v : Record) : elemEnc t v = .error (unknownType t) := by simp [elemEnc, ht]

theorem asduDec_of_no_layout (c : Cfg) (rest : Span) : ∃ e, asduDec c (t :: rest) = .error e := by
  have hlay : layoutOf (byteAt (t :: rest) 0) = none := ht
  rw [asduDec, hlay]
  exact asduDecWith_none c _

theorem asduEnc_of_no_layout (c : Cfg) {a : Asdu} (ha : a.ti = t) : asduEnc c a = .error (unknownType t) := by
  simp [asduEnc, ha, ht]

/-- A type without a layout has no value type, so every record is an operand of its operations (R260). -/
theorem wellTyped_elemEnc_of_no_layout (v : Record) : wellTyped (.elemEnc t v) = true := by simp [wellTyped, ht]

theorem typedAsdu_of_no_layout {a : Asdu} (ha : a.ti = t) : typedAsdu a = true := by simp [typedAsdu, ha, ht]

end

/-- Settles O18: a type identifier outside the 66 has no layout, and the operations of the type look for it first. -/
theorem unsupportedTypesRefused : Obligations.UnsupportedTypesRefused := by
  refine ⟨mem_supported_iff, fun t hmem => ?_⟩
  have ht := layoutOf_of_not_mem_supported hmem
  refine ⟨ht, fun s => ⟨fun S => ?elemDec, fun v => ?elemEnc, fun rest => ?asduDec, fun a ha => ?asduEnc⟩⟩
  case elemDec =>
    rw [runRequest_eq_runOp rfl, runOp, elemDec_of_no_layout ht]; rfl
  case elemEnc =>
    rw [runRequest_eq_runOp (wellTyped_elemEnc_of_no_layout ht v), runOp, elemEnc_of_no_layout ht]; rfl
  case asduDec =>
    obtain ⟨e, he⟩ := asduDec_of_no_layout ht s.cfg rest
    refine ⟨e, ?_⟩
    rw [runRequest_eq_runOp rfl, runOp, he]; rfl
  case asduEnc =>
    have hw : wellTyped (.asduEnc a) = true := typedAsdu_of_no_layout ht ha
    rw [runRequest_eq_runOp hw, runOp, asduEnc_of_no_layout ht s.cfg ha]; rfl

/-! ### Every operation is answered (R355) -/

theorem reply_next (x : Response) (s : State) : ∃ t, reply x s = .next t := ⟨_, rfl⟩

theorem opFeed_next (b : Span) (s : State) : ∃ t, opFeed b s = .next t := by
  unfold opFeed
  split
  · exact reply_next _ s
  · dsimp only
    split <;> exact reply_next _ _

theorem linkRxI_next (ns nr : Nat) (a : Asdu) (s : State) : ∃ t, linkRxI ns nr a s = .next t := by
  unfold linkRxI
  split
  · exact reply_next _ s
  · split <;> exact reply_next _ _

theorem linkRxS_next (nr : Nat) (s : State) : ∃ t, linkRxS nr s = .next t := by
  unfold linkRxS
  split
  · exact reply_next _ s
  · split <;> exact reply_next _ _

theorem linkRxU_next (act : UAct) (s : State) : ∃ t, linkRxU act s = .next t := by
  unfold linkRxU
  split <;> exact reply_next _ s

theorem linkTxI_next (a : Asdu) (s : State) : ∃ t, linkTxI a s = .next t := by
  unfold linkTxI
  split
  · exact reply_next _ s
  · split <;> exact reply_next _ _

theorem linkTxS_next (s : State) : ∃ t, linkTxS s = .next t := by
  unfold linkTxS
  split
  · exact reply_next _ s
  · split <;> exact reply_next _ _

theorem linkTxU_next (act : UAct) (s : State) : ∃ t, linkTxU act s = .next t := by
  unfold linkTxU
  split
  · exact reply_next _ s
  · obtain ⟨x, hx⟩ := answer_next ((compose s.cfg { apci := .u act, asdu := none }).map .bytes) s
    exact ⟨_, hx⟩

/-- An APDU has its ASDU exactly in the I format (R48). -/
theorem opLinkRx_next {p : Apdu} (hw : wellTyped (.linkRx p) = true) (s : State) : ∃ t, opLinkRx p s = .next t := by
  match p with
  | ⟨.i ns nr, some a⟩ => exact linkRxI_next ns nr a s
  | ⟨.s nr, none⟩ => exact linkRxS_next nr s
  | ⟨.u act, none⟩ => exact linkRxU_next act s
  | ⟨.i _ _, none⟩ | ⟨.s _, some _⟩ | ⟨.u _, some _⟩ => simp [wellTyped] at hw

theorem runOp_next {r : Request} (hw : wellTyped r = true) (s : State) : ∃ t, runOp r s = .next t := by
  cases r with
  | elemDec | elemEnc | asduDec | asduEnc | apciDec | apciEnc | frameDec | compose =>
    obtain ⟨x, hx⟩ := answer_next _ s
    exact ⟨_, hx⟩
  | split buf => exact reply_next _ s
  | feed b => exact opFeed_next b s
  | linkRx p => exact opLinkRx_next hw s
  | linkTxI a => exact linkTxI_next a s
  | linkTxS => exact linkTxS_next s
  | linkTxU act => exact linkTxU_next act s
  | transportClosed => exact reply_next _ _
  | reset c => exact ⟨_, if_pos (of_decide_eq_true hw)⟩

theorem layoutOf_of_onType_error {t : Byte} {op : TypeOp} {e : Reject} (h : onType t op = .error e) :
    layoutOf t = none := by
  rw [← typeRow_none_iff]
  cases hm : typeRow t with
  | none => rfl
  | some mk => simp [onType, hm] at h

/-- An ill-typed operand that selects no row is what is no APDU record or no configuration in range: a type without a
row has no ill-typed values, and the other operations with records always select a row. -/
theorem runOp_of_noRow_of_illTyped {r : Request} {e : Reject} (hd : decode r = .error e) (hw : wellTyped r = false)
    (s : State) : runOp r s = .refused .illTypedOperand := by
  cases r with
  | elemEnc t v =>
    have htyped := wellTyped_elemEnc_of_no_layout (layoutOf_of_onType_error hd) v
    exact absurd (htyped.symm.trans hw) (by decide)
  | asduEnc a =>
    have htyped := typedAsdu_of_no_layout (layoutOf_of_onType_error hd) (a := a) rfl
    exact absurd (htyped.symm.trans hw) (by decide)
  | compose p =>
    match p with
    | ⟨.i _ _, _⟩ | ⟨.s _, _⟩ | ⟨.u _, _⟩ => cases hd
  | linkRx p =>
    match p with
    | ⟨.i _ _, some _⟩ | ⟨.s _, none⟩ | ⟨.u _, none⟩ => cases hd
    | ⟨.i _ _, none⟩ | ⟨.s _, some _⟩ | ⟨.u _, some _⟩ => rfl
  | linkTxI a => cases hd
  | reset c => exact if_neg (of_decide_eq_false hw)
  | _ => cases hw

theorem runRequest_of_illTyped {r : Request} (hw : wellTyped r = false) (s : State) :
    runRequest r s = .refused .illTypedOperand := by
  cases hd : decode r with
  | ok i => exact runRequest_illTyped s hd ((wellFormed_eq_wellTyped (selects_of_decode hd)).trans hw)
  | error e => rw [runRequest_noRow s hd, runOp_of_noRow_of_illTyped hd hw]

/-- Settles O58: the step is the request, which on typed operands is the operation and on others is refused. -/
theorem everyOperationAnswered : Obligations.EveryOperationAnswered := by
  intro s r rest hq
  rw [step_pending s hq]
  refine ⟨fun hw => ?_, fun hw => runRequest_of_illTyped hw _⟩
  rw [runRequest_eq_runOp hw]
  exact runOp_next hw _

end Sys2Proof
end

section
/-! PROOFS of what the ASDU codec is made of (46_asdu R271 to R284): spans cut into chunks, the loops that encode and
decode the items of a list, and the header fields. Each loop is said once in places: item i stands in chunk i. -/
namespace Sys2Proof
open Sys2Proof.Machine Sys2Proof.Claims

/-! ### Slices and chunks (R23) -/

theorem slice_add (S : Span) (lo L : Nat) : slice S lo (lo + L) = (S.drop lo).take L := by
  rw [slice, Nat.add_sub_cancel_left]

/-- Chunk i of a span that is cut into chunks of L bytes. -/
def chunk (L : Nat) (S : Span) (i : Nat) : Span := (S.drop (i * L)).take L

@[simp] theorem chunk_zero (L : Nat) (S : Span) : chunk L S 0 = S.take L := by
  rw [chunk, Nat.zero_mul, List.drop_zero]

@[simp] theorem chunk_succ (L : Nat) (S : Span) (i : Nat) : chunk L S (i + 1) = chunk L (S.drop L) i := by
  rw [chunk, chunk, List.drop_drop, Nat.succ_mul, Nat.add_comm]

/-- A chunk of the rest of a span is a slice of the span. -/
theorem chunk_drop (L : Nat) (A : Span) (h i : Nat) : chunk L (A.drop h) i = slice A (h + i * L) (h + i * L + L) := by
  rw [chunk, slice_add, List.drop_drop]

theorem take_chunk_drop (k w : Nat) (A : Span) (h i : Nat) :
    (chunk (k + w) (A.drop h) i).take k = slice A (h + i * (k + w)) (h + i * (k + w) + k) := by
  rw [chunk, slice_add, List.drop_drop, List.take_take, Nat.min_eq_left (Nat.le_add_right k w)]

theorem drop_chunk_drop (k w : Nat) (A : Span) (h i : Nat) :
    (chunk (k + w) (A.drop h) i).drop k = slice A (h + i * (k + w) + k) (h + i * (k + w) + k + w) := by
  rw [chunk, slice_add, List.drop_drop, List.drop_take, List.drop_drop, Nat.add_sub_cancel_left]

theorem littleEndian_eq_leNat (S : Span) : littleEndian S = leNat S := by
  induction S with
  | nil => rfl
  | cons b S ih => exact congrArg (b.toNat + 256 * ·) ih

/-- What holds of every place of a nonempty list holds of its head and of every place of its tail. -/
theorem forall_getElem?_cons {α : Type} {P : Nat → α → Prop} {x : α} {xs : List α} :
    (∀ i y, (x :: xs)[i]? = some y → P i y) ↔ P 0 x ∧ ∀ i y, xs[i]? = some y → P (i + 1) y := by
  constructor
  · exact fun h => ⟨h 0 x rfl, fun i y hy => h (i + 1) y hy⟩
  · rintro ⟨hx, hxs⟩ i y hy
    cases i with
    | zero => cases hy; exact hx
    | succ i => exact hxs i y hy

/-! ### One encoding after another -/

/-- The encoding r and behind it the encoding r'; the first error of the two otherwise. -/
def joined (r r' : Except Err Span) : Except Err Span := do
  let S ← r
  let T ← r'
  .ok (S ++ T)

@[simp] theorem joined_ok (S T : Span) : joined (.ok S) (.ok T) = .ok (S ++ T) := rfl

@[simp] theorem joined_error_left (e : Err) (r : Except Err Span) : joined (.error e) r = .error e := rfl

@[simp] theorem joined_error_right (S : Span) (e : Err) : joined (.ok S) (.error e) = .error e := rfl

/-- Where the first encoding has a known length, the joined span tells the two apart. -/
theorem joined_eq_ok_iff {r r' : Except Err Span} {L : Nat} {S : Span} (hlen : ∀ T, r = .ok T → T.length = L) :
    joined r r' = .ok S ↔ r = .ok (S.take L) ∧ r' = .ok (S.drop L) := by
  constructor
  · intro h
    cases r with
    | error e => cases h
    | ok T =>
      cases r' with
      | error e => cases h
      | ok U =>
        cases h
        rw [List.take_left' (hlen T rfl), List.drop_left' (hlen T rfl)]
        exact ⟨rfl, rfl⟩
  · rintro ⟨rfl, rfl⟩
    rw [joined_ok, List.take_append_drop]

/-- The encodings of the items of a list one after the other; the error of the first that does not encode otherwise. -/
def encAll {α : Type} (enc : α → Except Err Span) : List α → Except Err Span
  | [] => .ok []
  | x :: xs => joined (enc x) (encAll enc xs)

section
variable {α : Type} {enc : α → Except Err Span} {xs : List α}

/-- Items of one width: the encodings are the chunks of the whole. -/
theorem encAll_eq_ok_iff {L : Nat} {S : Span} (hlen : ∀ x ∈ xs, ∀ T, enc x = .ok T → T.length = L) :
    encAll enc xs = .ok S ↔ S.length = xs.length * L ∧ ∀ i x, xs[i]? = some x → enc x = .ok (chunk L S i) := by
  induction xs generalizing S with
  | nil => simp [encAll, eq_comm (a := ([] : Span))]
  | cons x xs ih =>
    have hhead := hlen x List.mem_cons_self
    rw [encAll, joined_eq_ok_iff hhead, ih fun y hy => hlen y (List.mem_cons_of_mem x hy), forall_getElem?_cons]
    simp only [chunk_zero, chunk_succ, List.length_drop, List.length_cons, Nat.succ_mul]
    constructor
    · rintro ⟨hx, hrest, hxs⟩
      have htake := hhead _ hx
      rw [List.length_take] at htake
      exact ⟨by omega, hx, hxs⟩
    · rintro ⟨hS, hx, hxs⟩
      exact ⟨hx, by omega, hxs⟩

theorem encAll_ok (h : ∀ x ∈ xs, ∃ S, enc x = .ok S) : ∃ S, encAll enc xs = .ok S := by
  induction xs with
  | nil => exact ⟨[], rfl⟩
  | cons x xs ih =>
    obtain ⟨S, hS⟩ := h x List.mem_cons_self
    obtain ⟨T, hT⟩ := ih fun y hy => h y (List.mem_cons_of_mem x hy)
    exact ⟨S ++ T, by rw [encAll, hS, hT, joined_ok]⟩

theorem encAll_eq_error {i : Nat} {x : α} {e : Err} (hx : xs[i]? = some x) (he : enc x = .error e)
    (hbelow : ∀ j < i, ∀ y, xs[j]? = some y → ∃ S, enc y = .ok S) : encAll enc xs = .error e := by
  induction xs generalizing i with
  | nil => cases hx
  | cons y xs ih =>
    cases i with
    | zero => cases hx; rw [encAll, he, joined_error_left]
    | succ i =>
      obtain ⟨S, hS⟩ := hbelow 0 i.succ_pos y rfl
      have hrest : encAll enc xs = .error e := ih hx fun j hj z hz => hbelow (j + 1) (Nat.succ_lt_succ hj) z hz
      rw [encAll, hS, hrest, joined_error_right]

end

/-! ### One decoding after another -/

/-- n items read from the chunks of L bytes of a span, the first of them with the index i. -/
def decAll {α : Type} (L : Nat) (dec : Nat → Span → Except Err α) : Nat → Nat → Span → Except Err (List α)
  | 0, _, _ => .ok []
  | n + 1, i, S => do
    let x ← dec i (S.take L)
    let xs ← decAll L dec n (i + 1) (S.drop L)
    .ok (x :: xs)

section
variable {α : Type} {L : Nat} {dec : Nat → Span → Except Err α}

theorem decAll_succ_eq_ok_iff {n i : Nat} {S : Span} {ys : List α} :
    decAll L dec (n + 1) i S = .ok ys ↔
      ∃ x xs, ys = x :: xs ∧ dec i (S.take L) = .ok x ∧ decAll L dec n (i + 1) (S.drop L) = .ok xs := by
  rw [decAll]
  cases dec i (S.take L) with
  | error e => exact ⟨nofun, by rintro ⟨_, _, _, h, _⟩; cases h⟩
  | ok x =>
    cases decAll L dec n (i + 1) (S.drop L) with
    | error e => exact ⟨nofun, by rintro ⟨_, _, _, _, h⟩; cases h⟩
    | ok xs =>
      constructor
      · intro h; cases h; exact ⟨x, xs, rfl, rfl, rfl⟩
      · rintro ⟨_, _, rfl, hx, hxs⟩; cases hx; cases hxs; rfl

theorem decAll_eq_ok_iff {n i : Nat} {S : Span} {xs : List α} :
    decAll L dec n i S = .ok xs ↔
      xs.length = n ∧ ∀ j x, xs[j]? = some x → dec (i + j) (chunk L S j) = .ok x := by
  induction n generalizing i S xs with
  | zero =>
    cases xs with
    | nil => simp [decAll]
    | cons => simp [decAll]
  | succ n ih =>
    rw [decAll_succ_eq_ok_iff]
    cases xs with
    | nil => simp
    | cons x xs =>
      have hidx : ∀ j, i + 1 + j = i + (j + 1) := by omega
      rw [forall_getElem?_cons]
      simp only [List.cons.injEq, ih, hidx, chunk_zero, chunk_succ, List.length_cons, Nat.add_right_cancel_iff,
        Nat.add_zero]
      constructor
      · rintro ⟨_, _, ⟨rfl, rfl⟩, hx, hlen, hxs⟩; exact ⟨hlen, hx, hxs⟩
      · rintro ⟨hlen, hx, hxs⟩; exact ⟨x, xs, ⟨rfl, rfl⟩, hx, hlen, hxs⟩

theorem decAll_ok {n i : Nat} {S : Span} (h : ∀ j < n, ∃ x, dec (i + j) (chunk L S j) = .ok x) :
    ∃ xs, decAll L dec n i S = .ok xs := by
  induction n generalizing i S with
  | zero => exact ⟨[], rfl⟩
  | succ n ih =>
    obtain ⟨x, hx⟩ := h 0 n.succ_pos
    obtain ⟨xs, hxs⟩ : ∃ xs, decAll L dec n (i + 1) (S.drop L) = .ok xs := ih fun j hj => by
      obtain ⟨y, hy⟩ := h (j + 1) (Nat.succ_lt_succ hj)
      rw [chunk_succ, ← Nat.add_assoc, Nat.add_right_comm] at hy
      exact ⟨y, hy⟩
    exact ⟨x :: xs, decAll_succ_eq_ok_iff.2 ⟨x, xs, rfl, chunk_zero L S ▸ hx, hxs⟩⟩

end

/-! ### The header fields (R271, R273, R281, R282) -/

theorem addrEnc_of_lt {f : RangeField} {w x : Nat} (h : x < 2 ^ (8 * w)) : addrEnc f w x = .ok (leBytes w x) :=
  if_neg (Nat.not_le.2 h)

theorem addrEnc_of_le {f : RangeField} {w x : Nat} (h : 2 ^ (8 * w) ≤ x) : addrEnc f w x = .error (headerRange f) :=
  if_pos h

theorem addrEnc_eq_ok_iff {f : RangeField} {w x : Nat} {S : Span} :
    addrEnc f w x = .ok S ↔ S.length = w ∧ x = leNat S := by
  constructor
  · intro h
    rcases Nat.lt_or_ge x (2 ^ (8 * w)) with hx | hx
    · rw [addrEnc_of_lt hx] at h
      cases h
      exact ⟨leBytes_length w x, (leNat_leBytes hx).symm⟩
    · rw [addrEnc_of_le hx] at h; cases h
  · rintro ⟨rfl, rfl⟩
    rw [addrEnc_of_lt (leNat_lt S), leBytes_leNat]

theorem length_of_addrEnc {f : RangeField} {w x : Nat} (S : Span) (h : addrEnc f w x = .ok S) : S.length = w :=
  (addrEnc_eq_ok_iff.1 h).1

/-- Byte 0 of the span of a cause of transmission (R282). -/
def cotByte (x : Cot) : Byte := byte (put 0 6 x.cause ||| putFlag 6 x.pn ||| putFlag 7 x.test)

theorem cotEnc_of_cause {w : Nat} {x : Cot} (h : 64 ≤ x.cause) : cotEnc w x = .error (headerRange .cause) := if_pos h

section
variable {c : Cfg} {x : Cot} (hcause : x.cause < 64)
include hcause

theorem cotEnc_of_not_oaOk (hoa : ¬ OaOk c x) : cotEnc c.cotW x = .error (headerRange .oa) := by
  rw [cotEnc, if_neg (show ¬ 2 ^ 6 ≤ x.cause from Nat.not_le.2 hcause)]
  by_cases hw : c.cotW = 2
  · cases hx : x.oa with
    | none => simp [hw]
    | some a =>
      have ha : 256 ≤ a := by simpa [OaOk, hw, hx] using hoa
      simp [ha]
  · cases hx : x.oa with
    | none => simp [OaOk, hw, hx] at hoa
    | some a => simp [hw]

/-- The bytes of a cause of transmission that fits. -/
theorem cotEnc_of_oaOk (hoa : OaOk c x) : cotEnc c.cotW x = .ok (cotByte x :: x.oa.toList.map byte) := by
  rw [cotEnc, if_neg (show ¬ 2 ^ 6 ≤ x.cause from Nat.not_le.2 hcause)]
  by_cases hw : c.cotW = 2
  · obtain ⟨a, ha, hlt⟩ : ∃ a, x.oa = some a ∧ a < 256 := by simpa [OaOk, hw] using hoa
    simp [hw, ha, Nat.not_le.2 hlt, cotByte]
  · have hx : x.oa = none := by simpa [OaOk, hw] using hoa
    simp [hw, hx, cotByte]

/-- The fields read from byte 0, the originator address from byte 1. -/
theorem cotDec_cotByte (w : Nat) (S : Span) : cotDec w (cotByte x :: S) =
    { cause := x.cause, pn := x.pn, test := x.test, oa := if w = 2 then some (at' S 0).toNat else none } := by
  have hlt : x.cause < 2 ^ 6 := hcause
  simp [cotDec, byteAt, at', cotByte, field_put hlt, flag_put_of_disjoint hlt]

end

/-- All eight bits of byte 0 are fields. -/
theorem cotByte_cotDec (w : Nat) (b : Byte) (S : Span) : cotByte (cotDec w (b :: S)) = b := by
  change byte (put 0 6 (field b.toNat 0 6) ||| putFlag 6 (flag b.toNat 6) ||| putFlag 7 (flag b.toNat 7)) = b
  simp only [put_field, putFlag_flag, ← Nat.and_or_distrib_left, byte_and]
  exact byte_and_255 b

theorem cotDec_fits {c : Cfg} (C : Span) : (cotDec c.cotW C).cause < 64 ∧ OaOk c (cotDec c.cotW C) := by
  refine ⟨field_lt _ 0 6, ?_⟩
  by_cases hw : c.cotW = 2
  · simpa [OaOk, cotDec, hw] using (byteAt C 1).isLt
  · simp [OaOk, cotDec, hw]

/-- What encodes fits. -/
theorem fits_of_cotEnc {c : Cfg} {x : Cot} {C : Span} (h : cotEnc c.cotW x = .ok C) : x.cause < 64 ∧ OaOk c x := by
  have hcause : x.cause < 64 := by
    by_contra hge
    rw [cotEnc_of_cause (Nat.not_lt.1 hge)] at h; cases h
  refine ⟨hcause, ?_⟩
  by_contra hoa
  rw [cotEnc_of_not_oaOk hcause hoa] at h; cases h

/-- A cause of transmission is encoded in the bytes it is decoded from (R273, R282). -/
theorem cotEnc_eq_ok_iff {c : Cfg} (hw : c.cotW = 1 ∨ c.cotW = 2) {x : Cot} {C : Span} :
    cotEnc c.cotW x = .ok C ↔ C.length = c.cotW ∧ x = cotDec c.cotW C := by
  constructor
  · intro h
    obtain ⟨hcause, hoa⟩ := fits_of_cotEnc h
    rw [cotEnc_of_oaOk hcause hoa] at h
    cases h
    rw [cotDec_cotByte hcause]
    rcases hw with hw | hw
    · have hx : x.oa = none := by simpa [OaOk, hw] using hoa
      refine ⟨by simp [hw, hx], ?_⟩
      rw [if_neg (by omega), ← hx]
    · obtain ⟨a, ha, hlt⟩ : ∃ a, x.oa = some a ∧ a < 256 := by simpa [OaOk, hw] using hoa
      refine ⟨by simp [hw, ha], ?_⟩
      have hbyte : (at' (x.oa.toList.map byte) 0).toNat = a := by simp [ha, at', Nat.mod_eq_of_lt hlt]
      rw [if_pos hw, hbyte, ← ha]
  · rintro ⟨hC, rfl⟩
    obtain ⟨hcause, hoa⟩ := cotDec_fits (c := c) C
    rw [cotEnc_of_oaOk hcause hoa]
    rcases hw with hw | hw <;> rw [hw] at hC
    · obtain ⟨b, rfl⟩ := List.length_eq_one_iff.1 hC
      rw [cotByte_cotDec]
      simp [cotDec, hw]
    · obtain ⟨b, b', rfl⟩ := List.length_eq_two.1 hC
      rw [cotByte_cotDec]
      simp [cotDec, hw, byteAt]

/-- Only the bytes of the field are read. -/
theorem cotDec_take {w : Nat} (hw : w = 1 ∨ w = 2) (B : Span) : cotDec w (B.take w) = cotDec w B := by
  rcases hw with rfl | rfl
  · simp [cotDec, byteAt]
  · simp [cotDec, byteAt]

/-- The cause of transmission of an ASDU span (R273). -/
theorem cotDec_drop_two (w : Nat) (A : Span) : cotDec w (A.drop 2) =
    { cause := bits (at' A 2) 0 6, pn := (at' A 2).getLsbD 6, test := (at' A 2).getLsbD 7,
      oa := if w = 2 then some (at' A 3).toNat else none } := by
  have h2 : byteAt (A.drop 2) 0 = at' A 2 := by simp [byteAt, at']
  have h3 : byteAt (A.drop 2) 1 = at' A 3 := by simp [byteAt, at']
  rw [cotDec, h2, h3, field_toNat, flag_toNat, flag_toNat]

/-- The variable structure qualifier: the count in bits 0 to 6, SQ in bit 7 (R271). -/
def vsqByte (a : AsduBody) : Byte := byte (put 0 7 a.n ||| putFlag 7 a.sq)

theorem vsqByte_eq_iff {a : AsduBody} (hn : a.n ≤ 127) (b : Byte) :
    vsqByte a = b ↔ bits b 0 7 = a.n ∧ b.getLsbD 7 = a.sq := by
  rw [← field_toNat, ← flag_toNat, vsqByte]
  constructor
  · rintro rfl
    have hlt : a.n < 2 ^ 7 := by omega
    simp [field_put hlt, flag_put_of_disjoint hlt]
  · rintro ⟨hfield, hflag⟩
    rw [← hfield, ← hflag]
    simp only [put_field, putFlag_flag, ← Nat.and_or_distrib_left, byte_and]
    exact byte_and_255 b

end Sys2Proof
end

section
/-! PROOFS of the statements about ASDU_DEC (46_asdu R270 to R279). Decoder and encoder are both related to one
predicate, `AsduAt`: an ASDU span has the length of its layout, its header bytes carry the header fields, and each object stands
in the place its layout gives it (`addressOf`, `valueSpan`). ASDU_DEC gives a record exactly when the span carries it,
its element values read by ELEM_DEC. -/
namespace Sys2Proof
open Sys2Proof.Machine Sys2Proof.Claims

/-! ### What an ASDU span carries (R272 to R279) -/

/-- The header bytes of the span A carry the type identifier t and the header fields of the record a (R271, R273). -/
structure HeaderAt (c : Cfg) (t : Byte) (a : AsduBody) (A : Span) : Prop where
  ti : at' A 0 = t
  n : bits (at' A 1) 0 7 = a.n
  sq : (at' A 1).getLsbD 7 = a.sq
  cot : a.cot = cotDec c.cotW (A.drop 2)
  ca : a.ca = littleEndian (slice A (2 + c.cotW) (hdr c))

/-- Each object of the list stands in the span A where the layout gives it its place (R275, R276): its address, and
element value bytes that are V of its value. -/
def ObjectsAt (c : Cfg) (sq : Bool) (w : Nat) (V : Record → Span → Prop) (objs : List InfoObject) (A : Span) : Prop :=
  ∀ i o, objs[i]? = some o → o.ioa = addressOf c sq w A i ∧ V o.val (valueSpan c sq w A i)

/-- The span A is an ASDU of the type t that carries the record a: its length (R285), its header and its objects, whose
element values of w bytes are V of the bytes they stand in. -/
structure AsduAt (c : Cfg) (w : Nat) (V : Record → Span → Prop) (t : Byte) (a : AsduBody) (A : Span) : Prop where
  count : CountOk a
  length : A.length = asduLength c a.sq a.n w
  header : HeaderAt c t a A
  objects : ObjectsAt c a.sq w V a.objs A

/-- The bytes of an element value by ELEM_DEC. -/
def DecodedFrom (t : Byte) (lay : Layout) (v : Record) (S : Span) : Prop := elemDecRow t lay S = .ok v

/-- The bytes of an element value by ELEM_ENC. -/
def EncodedTo (v : Record) (S : Span) : Prop := encRecord v = .ok S

theorem HeaderAt.n_lt {c : Cfg} {t : Byte} {a : AsduBody} {A : Span} (h : HeaderAt c t a A) : a.n ≤ 127 :=
  h.n ▸ Nat.le_of_lt_succ (BitVec.isLt _)

/-- Inside an ASDU of its length, each of the n element values has its w bytes. -/
theorem valueSpan_length {c : Cfg} {sq : Bool} {n w i : Nat} {A : Span} (hA : A.length = asduLength c sq n w)
    (hi : i < n) : (valueSpan c sq w A i).length = w := by
  have hfit : valueAt c sq w i + w ≤ A.length := by
    rw [hA, asduLength, valueAt]
    cases sq with
    | true =>
      have := Nat.mul_le_mul_right w (Nat.succ_le_of_lt hi)
      rw [Nat.succ_mul] at this
      simp only [if_true]; omega
    | false =>
      have := Nat.mul_le_mul_right (c.ioaW + w) (Nat.succ_le_of_lt hi)
      rw [Nat.succ_mul] at this
      simp only [Bool.false_eq_true, if_false]; omega
  rw [valueSpan, slice_add, List.length_take, List.length_drop]
  omega

/-- The values of a span may be read in another way where that agrees on each of them. -/
theorem AsduAt.imp {c : Cfg} {w : Nat} {V V' : Record → Span → Prop} {t : Byte} {a : AsduBody} {A : Span}
    (h : AsduAt c w V t a A)
    (hV : ∀ i o, a.objs[i]? = some o → V o.val (valueSpan c a.sq w A i) → V' o.val (valueSpan c a.sq w A i)) :
    AsduAt c w V' t a A where
  count := h.count
  length := h.length
  header := h.header
  objects i o ho := by
    obtain ⟨haddr, hval⟩ := h.objects i o ho
    exact ⟨haddr, hV i o ho hval⟩

/-! ### The objects of a span, decoded (R275, R276) -/

/-- An object of the set layout from its chunk: k address bytes and its element value. -/
def setDec (t : Byte) (lay : Layout) (k : Nat) (C : Span) : Except Err InfoObject :=
  (elemDecRow t lay (C.drop k)).map (InfoObject.mk (leNat (C.take k)))

/-- An object of the sequence layout from its element value, at its address. -/
def seqDec (t : Byte) (lay : Layout) (ioa : Nat) (C : Span) : Except Err InfoObject :=
  (elemDecRow t lay C).map (InfoObject.mk ioa)

theorem map_mk_eq_ok_iff {r : Except Err Record} {ioa : Nat} {o : InfoObject} :
    r.map (InfoObject.mk ioa) = .ok o ↔ o.ioa = ioa ∧ r = .ok o.val := by
  obtain ⟨ioa', v⟩ := o
  cases r <;> simp [Except.map, eq_comm]

theorem setObjs_eq_decAll (t : Byte) (lay : Layout) (k ew n i : Nat) (area : Span) :
    setObjs t lay k ew n area = decAll (k + ew) (fun _ => setDec t lay k) n i area := by
  induction n generalizing i area with
  | zero => rfl
  | succ n ih =>
    rw [setObjs, decAll, ih (i + 1), setDec, List.drop_take, Nat.add_sub_cancel_left, List.take_take,
      Nat.min_eq_left (Nat.le_add_right k ew)]
    cases elemDecRow t lay ((area.drop k).take ew) <;> rfl

theorem seqObjs_eq_decAll (t : Byte) (lay : Layout) (ew n base i : Nat) (area : Span) :
    seqObjs t lay ew n (base + i) area = decAll ew (fun j => seqDec t lay (base + j)) n i area := by
  induction n generalizing i area with
  | zero => rfl
  | succ n ih =>
    rw [seqObjs, decAll, Nat.add_assoc, ih (i + 1), seqDec]
    cases elemDecRow t lay (area.take ew) <;> rfl

/-- The loop over the area of either layout. -/
theorem areaObjs_eq_decAll (t : Byte) (lay : Layout) (k ew : Nat) (sq : Bool) (n : Nat) (area : Span) :
    areaObjs t lay k ew sq n area =
      if sq then decAll ew (fun j => seqDec t lay (leNat (area.take k) + j)) n 0 (area.drop k)
      else decAll (k + ew) (fun _ => setDec t lay k) n 0 area := by
  rw [areaObjs, setObjs_eq_decAll t lay k ew n 0, ← seqObjs_eq_decAll t lay ew n (leNat (area.take k)) 0]
  rfl

section
variable (c : Cfg) (t : Byte) (lay : Layout) (w : Nat) (A : Span)

/-- The decoder of object i reads its address and its element value where the layout places them. -/
theorem setDec_chunk (i : Nat) : setDec t lay c.ioaW (chunk (c.ioaW + w) (A.drop (hdr c)) i) =
    (elemDecRow t lay (valueSpan c false w A i)).map (InfoObject.mk (addressOf c false w A i)) := by
  rw [setDec, take_chunk_drop, drop_chunk_drop, ← littleEndian_eq_leNat]
  rfl

theorem seqDec_chunk (i : Nat) :
    seqDec t lay (leNat ((A.drop (hdr c)).take c.ioaW) + i) (chunk w ((A.drop (hdr c)).drop c.ioaW) i) =
      (elemDecRow t lay (valueSpan c true w A i)).map (InfoObject.mk (addressOf c true w A i)) := by
  rw [seqDec, List.drop_drop, chunk_drop, ← littleEndian_eq_leNat, ← slice_add]
  rfl

theorem areaObjs_eq_ok_iff (sq : Bool) (n : Nat) (objs : List InfoObject) :
    areaObjs t lay c.ioaW w sq n (A.drop (hdr c)) = .ok objs ↔
      objs.length = n ∧ ObjectsAt c sq w (DecodedFrom t lay) objs A := by
  rw [areaObjs_eq_decAll]
  cases sq with
  | true => simp only [if_true, decAll_eq_ok_iff, Nat.zero_add, seqDec_chunk, map_mk_eq_ok_iff]; rfl
  | false =>
    simp only [Bool.false_eq_true, if_false, decAll_eq_ok_iff, setDec_chunk, map_mk_eq_ok_iff]; rfl

/-- In an ASDU of its length every object decodes, because ELEM_DEC is total on spans of its width. -/
theorem areaObjs_ok {sq : Bool} {n : Nat} (hA : A.length = asduLength c sq n (layoutWidth lay)) :
    ∃ objs, areaObjs t lay c.ioaW (layoutWidth lay) sq n (A.drop (hdr c)) = .ok objs := by
  have value_decodes : ∀ i < n, ∃ v, elemDecRow t lay (valueSpan c sq (layoutWidth lay) A i) = .ok v := by
    intro i hi
    have hlen := valueSpan_length hA hi
    obtain ⟨v, -, hv⟩ := decFields_of_ranges (lo := 0) (lay := lay) (by rw [hlen, Nat.zero_add])
    exact ⟨v, (elemDecRow_of_length t hlen).trans hv⟩
  rw [areaObjs_eq_decAll]
  cases sq with
  | true =>
    refine decAll_ok fun i hi => ?_
    obtain ⟨v, hv⟩ := value_decodes i hi
    rw [Nat.zero_add, seqDec_chunk, hv]
    exact ⟨_, rfl⟩
  | false =>
    refine decAll_ok fun i hi => ?_
    obtain ⟨v, hv⟩ := value_decodes i hi
    rw [setDec_chunk, hv]
    exact ⟨_, rfl⟩

end

/-! ### ASDU_DEC, check by check (R270 to R278) -/

/-- The area divides exactly when `divides` says so, into the width `derivedWidth`. -/
theorem areaWidth_of_divides {sq : Bool} {m n k : Nat} (h : divides sq m n k) :
    areaWidth sq m n k = .ok (derivedWidth sq m n k) := by
  cases sq with
  | true =>
    obtain ⟨hk, hn⟩ : k ≤ m ∧ n ∣ m - k := h
    simp [areaWidth, derivedWidth, Nat.not_lt.2 hk, Nat.mod_eq_zero_of_dvd hn]
  | false =>
    obtain ⟨hn, hk⟩ : n ∣ m ∧ k ≤ m / n := by simpa [divides] using h
    simp [areaWidth, derivedWidth, Nat.mod_eq_zero_of_dvd hn, Nat.not_lt.2 hk]

theorem areaWidth_of_not_divides {sq : Bool} {m n k : Nat} (h : ¬ divides sq m n k) :
    areaWidth sq m n k = .error chunkDivision := by
  cases sq with
  | true =>
    by_cases hk : m < k
    · simp [areaWidth, hk]
    · have hn : ¬ n ∣ m - k := fun hn => h ⟨Nat.not_lt.1 hk, hn⟩
      simp [areaWidth, Nat.dvd_iff_mod_eq_zero.not.1 hn]
  | false =>
    by_cases hn : n ∣ m
    · have hk : m / n < k := by simpa [divides, hn] using h
      simp [areaWidth, hk]
    · simp [areaWidth, Nat.dvd_iff_mod_eq_zero.not.1 hn]

/-- Lengths of areas and widths of element values correspond (R82, R83). -/
theorem areaWidth_eq_ok_iff {sq : Bool} {m n k w : Nat} (hn : 1 ≤ n) :
    areaWidth sq m n k = .ok w ↔ m = if sq then k + n * w else n * (k + w) := by
  by_cases h : divides sq m n k
  · rw [areaWidth_of_divides h, Except.ok.injEq]
    cases sq with
    | true =>
      obtain ⟨hk, hdvd⟩ : k ≤ m ∧ n ∣ m - k := h
      simp only [derivedWidth, if_true, Nat.div_eq_iff_eq_mul_right hn hdvd]
      omega
    | false =>
      obtain ⟨hdvd, hk⟩ : n ∣ m ∧ k ≤ m / n := by simpa [divides] using h
      simp only [derivedWidth, Bool.false_eq_true, if_false, ← Nat.div_eq_iff_eq_mul_right hn hdvd]
      omega
  · rw [areaWidth_of_not_divides h]
    refine ⟨nofun, fun hm => absurd ?_ h⟩
    subst hm
    cases sq with
    | true => simp [divides]
    | false => simp [divides, Nat.mul_div_cancel_left _ hn]

/-- The number of objects of the span A (R271). -/
abbrev countOf (A : Span) : Nat := bits (at' A 1) 0 7

/-- Whether the span A has the sequence layout (R271). -/
abbrev sqOf (A : Span) : Bool := (at' A 1).getLsbD 7

/-- The element width that the area of the span A yields, or M9 (R275, R276). -/
def widthOf (c : Cfg) (A : Span) : Except Err Nat := areaWidth (sqOf A) (A.length - hdr c) (countOf A) c.ioaW

/-- The objects of the span A, their element values of ew bytes read as those of the layout (R275, R276). -/
def objsOf (c : Cfg) (A : Span) (lay : Layout) (ew : Nat) : Except Err (List InfoObject) :=
  areaObjs (at' A 0) lay c.ioaW ew (sqOf A) (countOf A) (A.drop (hdr c))

/-- The record of the header bytes of the span A with the objects objs (R273). -/
def recordOf (c : Cfg) (A : Span) (objs : List InfoObject) : Asdu :=
  { ti := at' A 0, sq := sqOf A, n := countOf A, cot := cotDec c.cotW (A.drop 2),
    ca := littleEndian (slice A (2 + c.cotW) (hdr c)), objs := objs }

theorem widthOf_eq_ok_iff {c : Cfg} {A : Span} {w : Nat} (hlen : hdr c ≤ A.length) (hn : 1 ≤ countOf A) :
    widthOf c A = .ok w ↔ A.length = asduLength c (sqOf A) (countOf A) w := by
  rw [widthOf, areaWidth_eq_ok_iff hn, asduLength]
  omega

/-! The same three in the model's own reading of the header. -/

theorem widthOf_eq (c : Cfg) (A : Span) : widthOf c A = areaWidth (flag (byteAt A 1).toNat 7)
    (A.drop (headerLen c)).length (field (byteAt A 1).toNat 0 7) c.ioaW := by
  rw [widthOf, countOf, sqOf, field_toNat, flag_toNat, List.length_drop]
  rfl

theorem objsOf_eq (c : Cfg) (A : Span) (lay : Layout) (ew : Nat) : objsOf c A lay ew =
    areaObjs (byteAt A 0) lay c.ioaW ew (flag (byteAt A 1).toNat 7) (field (byteAt A 1).toNat 0 7)
      (A.drop (headerLen c)) := by
  rw [objsOf, countOf, sqOf, field_toNat, flag_toNat]
  rfl

theorem recordOf_eq (c : Cfg) (A : Span) (objs : List InfoObject) : recordOf c A objs =
    { ti := byteAt A 0, sq := flag (byteAt A 1).toNat 7, n := field (byteAt A 1).toNat 0 7,
      cot := cotDec c.cotW (A.drop 2), ca := leNat ((A.drop (2 + c.cotW)).take c.caW), objs := objs } := by
  rw [recordOf, countOf, sqOf, field_toNat, flag_toNat, littleEndian_eq_leNat, hdr, slice_add]
  rfl

section
variable {c : Cfg} {A : Span} {lay? : Option Layout}

/-- M7. -/
theorem asduDecWith_of_short (h : A.length < hdr c) : asduDecWith c lay? A = .error (malformed .m7) := if_pos h

variable (hlen : hdr c ≤ A.length)
include hlen

/-- M8. -/
theorem asduDecWith_of_zero (hn : countOf A = 0) : asduDecWith c lay? A = .error (malformed .m8) := by
  have hzero : field (at' A 1).toNat 0 7 = 0 := (field_toNat ..).trans hn
  exact (if_neg (Nat.not_lt.2 hlen)).trans (if_pos hzero)

variable (hn : 1 ≤ countOf A)
include hn

/-- Behind M7 and M8 the area is divided, and the width it yields decides on the rest. -/
theorem asduDecWith_eq_bind : asduDecWith c lay? A = widthOf c A >>= fun ew =>
    lay?.elim (.error (unknownType (at' A 0))) fun lay =>
      if ew ≠ layoutWidth lay then .error (malformed (.m10 (at' A 0) ew))
      else (objsOf c A lay ew).map (recordOf c A) := by
  have hpos : field (byteAt A 1).toNat 0 7 ≠ 0 := by rw [field_toNat]; exact Nat.ne_of_gt hn
  rw [widthOf_eq]
  refine (if_neg (Nat.not_lt.2 hlen)).trans ((if_neg hpos).trans (bind_congr fun ew => ?_))
  cases lay? with
  | none => rfl
  | some lay =>
    refine if_congr Iff.rfl rfl ?_
    rw [objsOf_eq]
    cases areaObjs (byteAt A 0) lay c.ioaW ew (flag (byteAt A 1).toNat 7) (field (byteAt A 1).toNat 0 7)
        (A.drop (headerLen c)) with
    | error e => rfl
    | ok objs => exact congrArg Except.ok (recordOf_eq c A objs).symm

/-- M9. -/
theorem asduDecWith_of_width_error {e : Err} (h : widthOf c A = .error e) : asduDecWith c lay? A = .error e := by
  rw [asduDecWith_eq_bind hlen hn, h]; rfl

section
variable {ew : Nat} (h : widthOf c A = .ok ew)
include h

/-- U1. -/
theorem asduDecWith_none_of_width : asduDecWith c none A = .error (unknownType (at' A 0)) := by
  rw [asduDecWith_eq_bind hlen hn, h]; rfl

/-- M10. -/
theorem asduDecWith_of_width_ne {lay : Layout} (hne : ew ≠ layoutWidth lay) :
    asduDecWith c (some lay) A = .error (malformed (.m10 (at' A 0) ew)) := by
  rw [asduDecWith_eq_bind hlen hn, h]
  exact if_pos hne

end

/-- A span whose area yields the width of its type decodes as its objects do. -/
theorem asduDecWith_of_width {lay : Layout} (h : widthOf c A = .ok (layoutWidth lay)) :
    asduDecWith c (some lay) A = (objsOf c A lay (layoutWidth lay)).map (recordOf c A) := by
  rw [asduDecWith_eq_bind hlen hn, h]
  exact if_neg (not_not.2 rfl)

/-- No other span decodes. -/
theorem width_of_asduDecWith {lay : Layout} {a : Asdu} (h : asduDecWith c (some lay) A = .ok a) :
    widthOf c A = .ok (layoutWidth lay) := by
  cases hw : widthOf c A with
  | error e => rw [asduDecWith_of_width_error hlen hn hw] at h; cases h
  | ok ew =>
    by_cases hew : ew = layoutWidth lay
    · rw [hew]
    · rw [asduDecWith_of_width_ne hlen hn hw hew] at h; cases h

end

theorem hdr_le_of_length {c : Cfg} {sq : Bool} {n w : Nat} {A : Span} (h : A.length = asduLength c sq n w) :
    hdr c ≤ A.length :=
  h ▸ Nat.le_add_right _ _

/-- ASDU_DEC gives a record exactly when the span carries it, its values by ELEM_DEC. -/
theorem asduDecWith_eq_ok_iff {c : Cfg} {lay : Layout} {A : Span} {a : Asdu} :
    asduDecWith c (some lay) A = .ok a ↔
      AsduAt c (layoutWidth lay) (DecodedFrom a.ti lay) a.ti a.toAsduBody A := by
  constructor
  · intro h
    have hlen : hdr c ≤ A.length := by
      by_contra hshort
      rw [asduDecWith_of_short (Nat.not_le.1 hshort)] at h; cases h
    have hn : 1 ≤ countOf A := by
      by_contra hzero
      rw [asduDecWith_of_zero hlen (Nat.lt_one_iff.1 (Nat.not_le.1 hzero))] at h; cases h
    have hw := width_of_asduDecWith hlen hn h
    rw [asduDecWith_of_width hlen hn hw] at h
    cases hobjs : objsOf c A lay (layoutWidth lay) with
    | error e => rw [hobjs] at h; cases h
    | ok objs =>
      rw [hobjs] at h
      cases h
      obtain ⟨hcount, hplaces⟩ := (areaObjs_eq_ok_iff ..).1 hobjs
      have header : HeaderAt c (at' A 0) (recordOf c A objs).toAsduBody A := ⟨rfl, rfl, rfl, rfl, rfl⟩
      exact ⟨⟨hn, header.n_lt, hcount⟩, (widthOf_eq_ok_iff hlen hn).1 hw, header, hplaces⟩
  · rintro ⟨⟨hn, -, hcount⟩, hA, ⟨hti, hn', hsq, hcot, hca⟩, hplaces⟩
    obtain ⟨⟨sq, n, cot, ca, objs⟩, ti⟩ := a
    dsimp only at *
    subst hti hn' hsq hcot hca
    have hlen := hdr_le_of_length hA
    have hobjs : objsOf c A lay (layoutWidth lay) = .ok objs := (areaObjs_eq_ok_iff ..).2 ⟨hcount, hplaces⟩
    rw [asduDecWith_of_width hlen hn ((widthOf_eq_ok_iff hlen hn).2 hA), hobjs]
    rfl

/-! ### ASDU_DEC as an operation -/

theorem runRequest_asduDec_eq {A : Span} {s : State} {r : Except Err Asdu}
    (hr : asduDecWith s.cfg (layoutOf (at' A 0)) A = r) : runRequest (.asduDec A) s = answer (r.map .asdu) s := by
  rw [runRequest_eq_runOp rfl, ← hr]; rfl

theorem OnRow.asduDec_eq {t : Byte} {mk : TypeOp → Instr} {lay : Layout} (h : OnRow t mk lay) {rest : Span} {s : State}
    {r : Except Err Asdu} (hr : asduDecWith s.cfg (some lay) (t :: rest) = r) :
    exec (mk (.asduDec rest)) s = answer (r.map .asdu) s := by
  rw [h.exec_eq, ← hr]; rfl

/-- Settles O20: each check of ASDU_DEC in turn, behind the ones before it. -/
theorem asduDecodeErrorOrder : Obligations.AsduDecodeErrorOrder := by
  intro s A
  refine ⟨fun hshort => ?m7, fun hlen hn => ?m8, fun hlen hn hdiv => ?m9, fun hlen hn hdiv hmem => ?u1,
    fun lay hlay hlen hn hdiv hw => ?m10⟩
  case m7 => exact runRequest_asduDec_eq (asduDecWith_of_short hshort)
  case m8 => exact runRequest_asduDec_eq (asduDecWith_of_zero hlen hn)
  case m9 => exact runRequest_asduDec_eq (asduDecWith_of_width_error hlen hn (areaWidth_of_not_divides hdiv))
  case u1 =>
    rw [runRequest_asduDec_eq rfl, layoutOf_of_not_mem_supported hmem,
      asduDecWith_none_of_width hlen hn (areaWidth_of_divides hdiv)]
    rfl
  case m10 =>
    rw [runRequest_asduDec_eq rfl, hlay, asduDecWith_of_width_ne hlen hn (areaWidth_of_divides hdiv) hw]
    rfl

/-- Settles O21: a span of its length decodes because its objects do, and the record is the one the span carries. -/
theorem asduDecodeResult : Obligations.AsduDecodeResult := by
  intro t mk lay s rest hrow hlay A n sq hn hA _
  have hon : OnRow t mk lay := ⟨hrow, hlay⟩
  obtain ⟨objs, hobjs⟩ := areaObjs_ok s.cfg t lay A hA
  have hdec : asduDecWith s.cfg (some lay) A = .ok (recordOf s.cfg A objs) := by
    have hlen := hdr_le_of_length hA
    rw [asduDecWith_of_width hlen hn ((widthOf_eq_ok_iff hlen hn).2 hA)]
    exact congrArg (Except.map (recordOf s.cfg A)) hobjs
  obtain ⟨⟨-, hle, hcount⟩, -, -, hplaces⟩ := asduDecWith_eq_ok_iff.1 hdec
  have hcot : (recordOf s.cfg A objs).cot = _ := cotDec_drop_two s.cfg.cotW A
  refine ⟨recordOf s.cfg A objs, hon.asduDec_eq hdec, rfl, rfl, rfl, hle, by rw [hcot], by rw [hcot], by rw [hcot],
    by rw [hcot], rfl, hcount, fun i hi => ?_⟩
  obtain ⟨o, ho⟩ : ∃ o, objs[i]? = some o := ⟨_, List.getElem?_eq_getElem (hi.trans_eq hcount.symm)⟩
  obtain ⟨haddr, hval⟩ := hplaces i _ ho
  exact ⟨o, ho, haddr, hon.elemDec_eq hval s⟩

end Sys2Proof
end

section
/-! PROOFS of the statements about ASDU_ENC (46_asdu R280 to R285, 60_exceptions R349). ASDU_ENC gives a span exactly
when that carries the record (`AsduAt`), its element values written by ELEM_ENC; its errors are those of the first check
that fails. -/
namespace Sys2Proof
open Sys2Proof.Machine Sys2Proof.Claims

/-! ### The objects of a span, encoded (R283, R284) -/

/-- An object of the set layout: its address and its element value. -/
def setEnc (k : Nat) (o : InfoObject) : Except Err Span := joined (addrEnc .ioa k o.ioa) (encRecord o.val)

theorem setArea_eq_encAll (k : Nat) (objs : List InfoObject) : setArea k objs = encAll (setEnc k) objs := by
  induction objs with
  | nil => rfl
  | cons o objs ih =>
    rw [setArea, encAll, ih, setEnc]
    cases addrEnc .ioa k o.ioa <;> cases encRecord o.val <;> rfl

theorem seqValues_eq_encAll (objs : List InfoObject) : seqValues objs = encAll (fun o => encRecord o.val) objs := by
  induction objs with
  | nil => rfl
  | cons o objs ih => rw [seqValues, encAll, ih]; rfl

/-- The sequence layout checks that each address follows the base. -/
theorem firstWrong_eq_none_iff {next idx : Nat} {objs : List InfoObject} :
    firstWrong next idx objs = none ↔ ∀ i o, objs[i]? = some o → o.ioa = next + i := by
  induction objs generalizing next idx with
  | nil => simp [firstWrong]
  | cons o objs ih =>
    rw [forall_getElem?_cons, firstWrong]
    by_cases ho : o.ioa = next
    · simp [ho, ih, Nat.add_assoc, Nat.add_comm 1]
    · simp [ho]

theorem firstWrong_eq_some {next idx j : Nat} {objs : List InfoObject} {p : InfoObject} (hp : objs[j]? = some p)
    (hwrong : p.ioa ≠ next + j) (hbelow : ∀ i < j, ∀ q, objs[i]? = some q → q.ioa = next + i) :
    firstWrong next idx objs = some (idx + j) := by
  induction objs generalizing next idx j with
  | nil => cases hp
  | cons o objs ih =>
    cases j with
    | zero => cases hp; exact if_pos hwrong
    | succ j =>
      have ho : o.ioa = next := hbelow 0 j.succ_pos o rfl
      have hrest : firstWrong (next + 1) (idx + 1) objs = some (idx + 1 + j) :=
        ih hp (by omega) fun i hi q hq => by rw [hbelow (i + 1) (Nat.succ_lt_succ hi) q hq]; omega
      rw [firstWrong, if_neg (not_not.2 ho), hrest]
      congr 1; omega

section
variable {k : Nat} {b : InfoObject} {objs : List InfoObject}

/-- X1 of the base address, then X3, then the element values (R349). -/
theorem seqArea_cons_eq_bind : seqArea k (b :: objs) = addrEnc .ioa k b.ioa >>= fun S =>
    (firstWrong b.ioa 0 (b :: objs)).elim (joined (.ok S) (encAll (fun o => encRecord o.val) (b :: objs)))
      fun j => .error (.encodeError (.x3 j)) := by
  rw [← seqValues_eq_encAll]
  refine bind_congr fun S => ?_
  rw [List.head?_cons, Option.map_some, Option.getD_some]
  cases firstWrong b.ioa 0 (b :: objs) <;> rfl

theorem seqArea_of_base (h : 2 ^ (8 * k) ≤ b.ioa) : seqArea k (b :: objs) = .error (headerRange .ioa) := by
  rw [seqArea_cons_eq_bind, addrEnc_of_le h]; rfl

theorem seqArea_of_firstWrong {j : Nat} (hb : b.ioa < 2 ^ (8 * k)) (h : firstWrong b.ioa 0 (b :: objs) = some j) :
    seqArea k (b :: objs) = .error (.encodeError (.x3 j)) := by
  rw [seqArea_cons_eq_bind, addrEnc_of_lt hb, h]; rfl

/-- The base address and then the element values, where the addresses follow it. -/
theorem seqArea_of_consecutive (h : firstWrong b.ioa 0 (b :: objs) = none) :
    seqArea k (b :: objs) =
      joined (addrEnc .ioa k b.ioa) (encAll (fun o => encRecord o.val) (b :: objs)) := by
  rw [seqArea_cons_eq_bind, h]; rfl

/-- The span of a sequence: its base address, which the others follow, and its element values. -/
theorem seqArea_eq_ok_iff {S : Span} :
    seqArea k (b :: objs) = .ok S ↔ k ≤ S.length ∧
      (∀ i o, (b :: objs)[i]? = some o → o.ioa = leNat (S.take k) + i) ∧
      encAll (fun o => encRecord o.val) (b :: objs) = .ok (S.drop k) := by
  constructor
  · intro h
    have hb : b.ioa < 2 ^ (8 * k) := by
      by_contra hge
      rw [seqArea_of_base (Nat.not_lt.1 hge)] at h; cases h
    cases hwrong : firstWrong b.ioa 0 (b :: objs) with
    | some j => rw [seqArea_of_firstWrong hb hwrong] at h; cases h
    | none =>
      rw [seqArea_of_consecutive hwrong, joined_eq_ok_iff length_of_addrEnc] at h
      obtain ⟨hbase, hvalues⟩ := h
      obtain ⟨hlen, hbase⟩ := addrEnc_eq_ok_iff.1 hbase
      rw [List.length_take] at hlen
      exact ⟨by omega, hbase ▸ firstWrong_eq_none_iff.1 hwrong, hvalues⟩
  · rintro ⟨hlen, haddr, hvalues⟩
    have hbase : b.ioa = leNat (S.take k) := haddr 0 b rfl
    rw [seqArea_of_consecutive (firstWrong_eq_none_iff.2 (hbase.symm ▸ haddr)), joined_eq_ok_iff length_of_addrEnc]
    exact ⟨addrEnc_eq_ok_iff.2 ⟨List.length_take_of_le hlen, hbase⟩, hvalues⟩

end

/-- The area of either layout (R283, R284). -/
def areaEnc (k : Nat) (a : AsduBody) : Except Err Span := if a.sq then seqArea k a.objs else setArea k a.objs

theorem length_of_encRecord {lay : Layout} {objs : List InfoObject} (htyped : typedObjs lay objs = true) :
    ∀ o ∈ objs, ∀ S, encRecord o.val = .ok S → S.length = layoutWidth lay := fun o ho _ hS =>
  (decFields_of_encRecord (List.all_eq_true.1 htyped o ho) hS).1

theorem setEnc_eq_ok_iff {k : Nat} {o : InfoObject} {C : Span} :
    setEnc k o = .ok C ↔ k ≤ C.length ∧ o.ioa = leNat (C.take k) ∧ encRecord o.val = .ok (C.drop k) := by
  rw [setEnc, joined_eq_ok_iff length_of_addrEnc, addrEnc_eq_ok_iff, List.length_take, min_eq_left_iff, and_assoc]

theorem chunk_length {L n i : Nat} {S : Span} (hS : S.length = n * L) (hi : i < n) : (chunk L S i).length = L := by
  have hfit := Nat.mul_le_mul_right L (Nat.succ_le_of_lt hi)
  rw [Nat.succ_mul] at hfit
  rw [chunk, List.length_take, List.length_drop]
  omega

/-- The set layout: every object in its own chunk of address and value. -/
theorem setArea_eq_ok_iff {c : Cfg} {w : Nat} {objs : List InfoObject} {A : Span} (hA : hdr c ≤ A.length)
    (hwidth : ∀ o ∈ objs, ∀ S, encRecord o.val = .ok S → S.length = w) :
    setArea c.ioaW objs = .ok (A.drop (hdr c)) ↔
      A.length = asduLength c false objs.length w ∧ ObjectsAt c false w EncodedTo objs A := by
  have hset : ∀ o ∈ objs, ∀ C, setEnc c.ioaW o = .ok C → C.length = c.ioaW + w := by
    intro o ho C hC
    obtain ⟨hk, -, hval⟩ := setEnc_eq_ok_iff.1 hC
    have hdrop := hwidth o ho _ hval
    rw [List.length_drop] at hdrop
    omega
  have harea : (A.drop (hdr c)).length = objs.length * (c.ioaW + w) ↔ A.length = asduLength c false objs.length w := by
    rw [List.length_drop]
    simp only [asduLength, Bool.false_eq_true, if_false]
    omega
  rw [setArea_eq_encAll, encAll_eq_ok_iff hset, ← harea]
  refine and_congr_right fun hlen => forall₃_congr fun i o ho => ?_
  have hi : i < objs.length := (List.getElem?_eq_some_iff.1 ho).1
  rw [setEnc_eq_ok_iff, chunk_length hlen hi, take_chunk_drop, drop_chunk_drop, ← littleEndian_eq_leNat,
    and_iff_right (Nat.le_add_right _ _)]
  rfl

/-- The sequence layout: the base address, then every value in its own chunk. -/
theorem seqArea_eq_ok_iff_objectsAt {c : Cfg} {w : Nat} {objs : List InfoObject} {A : Span} (hA : hdr c ≤ A.length)
    (hpos : 1 ≤ objs.length) (hwidth : ∀ o ∈ objs, ∀ S, encRecord o.val = .ok S → S.length = w) :
    seqArea c.ioaW objs = .ok (A.drop (hdr c)) ↔
      A.length = asduLength c true objs.length w ∧ ObjectsAt c true w EncodedTo objs A := by
  obtain ⟨b, rest, rfl⟩ := List.exists_cons_of_length_pos hpos
  have harea : (c.ioaW ≤ (A.drop (hdr c)).length ∧
      ((A.drop (hdr c)).drop c.ioaW).length = (b :: rest).length * w) ↔
        A.length = asduLength c true (b :: rest).length w := by
    simp only [List.length_drop, asduLength, if_true]
    omega
  have hchunk : ∀ i, chunk w ((A.drop (hdr c)).drop c.ioaW) i = valueSpan c true w A i := fun i => by
    rw [List.drop_drop, chunk_drop]; rfl
  have hbase : leNat ((A.drop (hdr c)).take c.ioaW) = littleEndian (slice A (hdr c) (hdr c + c.ioaW)) := by
    rw [slice_add, littleEndian_eq_leNat]
  rw [seqArea_eq_ok_iff, encAll_eq_ok_iff hwidth, ← harea, hbase]
  simp only [hchunk]
  constructor
  · rintro ⟨hk, haddr, hlen, hval⟩
    exact ⟨⟨hk, hlen⟩, fun i o ho => ⟨haddr i o ho, hval i o ho⟩⟩
  · rintro ⟨⟨hk, hlen⟩, hobjs⟩
    exact ⟨hk, fun i o ho => (hobjs i o ho).1, hlen, fun i o ho => (hobjs i o ho).2⟩

/-- The area of an ASDU encodes exactly to the bytes that carry its objects, each in the place of its layout. -/
theorem areaEnc_eq_ok_iff {c : Cfg} {lay : Layout} {a : AsduBody} {A : Span} (htyped : typedObjs lay a.objs = true)
    (hcount : CountOk a) (hA : hdr c ≤ A.length) :
    areaEnc c.ioaW a = .ok (A.drop (hdr c)) ↔
      A.length = asduLength c a.sq a.n (layoutWidth lay) ∧ ObjectsAt c a.sq (layoutWidth lay) EncodedTo a.objs A := by
  obtain ⟨hpos, -, hn⟩ := hcount
  have hwidth := length_of_encRecord htyped
  rw [areaEnc, ← hn]
  cases a.sq with
  | false => exact setArea_eq_ok_iff hA hwidth
  | true => exact seqArea_eq_ok_iff_objectsAt hA (hn ▸ hpos) hwidth

/-! ### ASDU_ENC, check by check (R280 to R285, R349) -/

/-- The encodings behind the variable structure qualifier. -/
def bodyEnc (c : Cfg) (a : AsduBody) : Except Err Span :=
  joined (cotEnc c.cotW a.cot) (joined (addrEnc .ca c.caW a.ca) (areaEnc c.ioaW a))

theorem asduEncRow_of_not_countOk {c : Cfg} {t : Byte} {a : AsduBody} (h : ¬ CountOk a) :
    asduEncRow c t a = .error (.encodeError (.x2 a.n a.objs.length)) :=
  if_pos (by unfold CountOk at h; tauto)

theorem areaEnc_bind (k : Nat) (a : AsduBody) (f : Span → Except Err Span) :
    (if a.sq then seqArea k a.objs >>= f else setArea k a.objs >>= f) = areaEnc k a >>= f :=
  (apply_ite (· >>= f) _ _ _).symm

theorem asduEncRow_of_countOk {c : Cfg} {t : Byte} {a : AsduBody} (h : CountOk a) :
    asduEncRow c t a = (bodyEnc c a).map fun B => t :: vsqByte a :: B := by
  obtain ⟨hpos, hle, hn⟩ := h
  refine (if_neg (by tauto)).trans ?_
  rw [bodyEnc]
  cases cotEnc c.cotW a.cot with
  | error e => rfl
  | ok C =>
    cases addrEnc .ca c.caW a.ca with
    | error e => rfl
    | ok D =>
      refine (areaEnc_bind c.ioaW a _).trans ?_
      cases areaEnc c.ioaW a with
      | error e => rfl
      | ok S => exact congrArg (fun B => Except.ok (t :: vsqByte a :: B)) (List.append_assoc C D S)

theorem bodyEnc_eq_ok_iff {c : Cfg} (hcfg : c.Ok) {a : AsduBody} {A : Span} :
    bodyEnc c a = .ok (A.drop 2) ↔ hdr c ≤ A.length ∧ a.cot = cotDec c.cotW (A.drop 2) ∧
      a.ca = littleEndian (slice A (2 + c.cotW) (hdr c)) ∧ areaEnc c.ioaW a = .ok (A.drop (hdr c)) := by
  obtain ⟨hcot, hca, -⟩ := hcfg
  have hslice : ((A.drop 2).drop c.cotW).take c.caW = slice A (2 + c.cotW) (hdr c) := by
    rw [List.drop_drop, hdr, slice_add]
  have hrest : ((A.drop 2).drop c.cotW).drop c.caW = A.drop (hdr c) := by
    simp only [List.drop_drop, hdr, Nat.add_assoc]
  have hlen : ((A.drop 2).take c.cotW).length = c.cotW ∧ (((A.drop 2).drop c.cotW).take c.caW).length = c.caW ↔
      hdr c ≤ A.length := by
    simp only [List.length_take, List.length_drop, hdr]; omega
  rw [bodyEnc, joined_eq_ok_iff fun C hC => ((cotEnc_eq_ok_iff hcot).1 hC).1, joined_eq_ok_iff length_of_addrEnc,
    cotEnc_eq_ok_iff hcot, addrEnc_eq_ok_iff, cotDec_take hcot, ← hlen, hrest, littleEndian_eq_leNat, ← hslice]
  tauto

theorem map_cons_cons_eq_ok_iff {r : Except Err Span} {t v : Byte} {A : Span} (hA : 2 ≤ A.length) :
    (r.map fun B => t :: v :: B) = .ok A ↔ at' A 0 = t ∧ v = at' A 1 ∧ r = .ok (A.drop 2) := by
  match A with
  | a :: b :: B => cases r <;> simp [Except.map, at', eq_comm]

/-- ASDU_ENC gives a span exactly when that carries the record, its values by ELEM_ENC. -/
theorem asduEncRow_eq_ok_iff {c : Cfg} (hcfg : c.Ok) {t : Byte} {lay : Layout} {a : AsduBody}
    (htyped : typedObjs lay a.objs = true) {A : Span} :
    asduEncRow c t a = .ok A ↔ AsduAt c (layoutWidth lay) EncodedTo t a A := by
  constructor
  · intro h
    have hcount : CountOk a := by
      by_contra hcount
      rw [asduEncRow_of_not_countOk hcount] at h; cases h
    have hA : 2 ≤ A.length := by
      rw [asduEncRow_of_countOk hcount] at h
      cases hB : bodyEnc c a <;> rw [hB] at h <;> cases h
      simp
    have ⟨_, hle, _⟩ := hcount
    rw [asduEncRow_of_countOk hcount, map_cons_cons_eq_ok_iff hA, vsqByte_eq_iff hle, bodyEnc_eq_ok_iff hcfg] at h
    obtain ⟨hti, ⟨hn, hsq⟩, hhdr, hcot, hca, harea⟩ := h
    obtain ⟨hlen, hobjs⟩ := (areaEnc_eq_ok_iff htyped hcount hhdr).1 harea
    exact ⟨hcount, hlen, ⟨hti, hn, hsq, hcot, hca⟩, hobjs⟩
  · rintro ⟨hcount, hlen, ⟨hti, hn, hsq, hcot, hca⟩, hobjs⟩
    have hhdr := hdr_le_of_length hlen
    have hA : 2 ≤ A.length := by rw [hdr] at hhdr; omega
    have ⟨_, hle, _⟩ := hcount
    rw [asduEncRow_of_countOk hcount, map_cons_cons_eq_ok_iff hA, vsqByte_eq_iff hle, bodyEnc_eq_ok_iff hcfg]
    exact ⟨hti, ⟨hn, hsq⟩, hhdr, hcot, hca, (areaEnc_eq_ok_iff htyped hcount hhdr).2 ⟨hlen, hobjs⟩⟩

/-- Behind X2 the checks of the header stand in the order cause, originator address, common address (R349). -/
theorem asduEncRow_of_bodyEnc_error {c : Cfg} {t : Byte} {a : AsduBody} {e : Err} (hcount : CountOk a)
    (h : bodyEnc c a = .error e) : asduEncRow c t a = .error e := by
  rw [asduEncRow_of_countOk hcount, h]; rfl

theorem bodyEnc_of_cot_error {c : Cfg} {a : AsduBody} {e : Err} (h : cotEnc c.cotW a.cot = .error e) :
    bodyEnc c a = .error e := by
  rw [bodyEnc, h, joined_error_left]

theorem bodyEnc_of_ca {c : Cfg} {a : AsduBody} (hcause : a.cot.cause < 64) (hoa : OaOk c a.cot)
    (hca : 2 ^ (8 * c.caW) ≤ a.ca) : bodyEnc c a = .error (headerRange .ca) := by
  rw [bodyEnc, cotEnc_of_oaOk hcause hoa, addrEnc_of_le hca, joined_error_left, joined_error_right]

/-- Behind a header that fits, the area decides. -/
theorem asduEncRow_of_headerOk {c : Cfg} {a : AsduBody} (h : HeaderOk c a) (t : Byte) :
    ∃ head : Span, asduEncRow c t a = (areaEnc c.ioaW a).map (head ++ ·) := by
  obtain ⟨hcount, hcause, hoa, hca⟩ := h
  rw [asduEncRow_of_countOk hcount, bodyEnc, cotEnc_of_oaOk hcause hoa, addrEnc_of_lt hca]
  refine ⟨t :: vsqByte a :: cotByte a.cot :: (a.cot.oa.toList.map byte ++ leBytes c.caW a.ca), ?_⟩
  cases areaEnc c.ioaW a with
  | error e => rfl
  | ok S => simp [Except.map]

theorem asduEncRow_of_area_error {c : Cfg} {t : Byte} {a : AsduBody} {e : Err} (h : HeaderOk c a)
    (he : areaEnc c.ioaW a = .error e) : asduEncRow c t a = .error e := by
  obtain ⟨head, hrow⟩ := asduEncRow_of_headerOk h t
  rw [hrow, he]; rfl

/-- The loop of ELEM_ENC gives nothing but the encodings in wire order. -/
theorem encodesTo_of_encRecord {v : Record} {out : Span} (h : encRecord v = .ok out) : EncodesTo v out := by
  induction v generalizing out with
  | nil => cases h; exact ⟨[], .nil, rfl⟩
  | cons p v ih =>
    obtain ⟨f, x⟩ := p
    obtain ⟨S, T, hx, hv, rfl⟩ := encRecord_cons_eq_ok h
    obtain ⟨parts, hparts, rfl⟩ := ih hv
    exact ⟨S :: parts, .cons hx hparts, rfl⟩

theorem encRecord_ok_of_valuesEncodeBelow {a : AsduBody} {i : Nat} (h : ValuesEncodeBelow a i) {j : Nat} (hj : j < i)
    {p : InfoObject} (hp : a.objs[j]? = some p) : ∃ S, encRecord p.val = .ok S := by
  obtain ⟨S, hS⟩ := h j hj p hp
  exact ⟨S, encRecord_eq_ok_of_encodesTo hS⟩

/-- X1 of the address, or the error of the element value, of the first object that does not encode (R283). -/
theorem areaEnc_set_error {k i : Nat} {a : AsduBody} {o : InfoObject} {e : Err} (hsq : a.sq = false)
    (ho : a.objs[i]? = some o) (he : setEnc k o = .error e) (hvalues : ValuesEncodeBelow a i)
    (haddrs : ∀ j < i, ∀ p : InfoObject, a.objs[j]? = some p → p.ioa < 2 ^ (8 * k)) : areaEnc k a = .error e := by
  rw [areaEnc, hsq, if_neg Bool.false_ne_true, setArea_eq_encAll]
  refine encAll_eq_error ho he fun j hj p hp => ?_
  obtain ⟨S, hS⟩ := encRecord_ok_of_valuesEncodeBelow hvalues hj hp
  rw [setEnc, addrEnc_of_lt (haddrs j hj p hp), hS, joined_ok]
  exact ⟨_, rfl⟩

theorem areaEnc_seq_eq {k : Nat} {a : AsduBody} {b : InfoObject} (hsq : a.sq = true) (hb : a.objs[0]? = some b) :
    ∃ rest, a.objs = b :: rest ∧ areaEnc k a = seqArea k (b :: rest) := by
  obtain ⟨rest, hobjs⟩ : ∃ rest, a.objs = b :: rest :=
    List.head?_eq_some_iff.1 (List.head?_eq_getElem?.trans hb)
  exact ⟨rest, hobjs, by rw [areaEnc, hsq, if_pos rfl, hobjs]⟩

theorem OnRow.asduEnc_eq {t : Byte} {mk : TypeOp → Instr} {lay : Layout} (h : OnRow t mk lay) {a : AsduBody} {s : State}
    {r : Except Err Span} (hr : asduEncRow s.cfg t a = r) : exec (mk (.asduEnc a)) s = answer (r.map .bytes) s := by
  rw [h.exec_eq, ← hr]; rfl

/-- Settles O22: each check of ASDU_ENC in turn, behind the ones before it. -/
theorem asduEncodeErrorOrder : Obligations.AsduEncodeErrorOrder := by
  refine ⟨fun a s hmem => ?u1, fun t mk hrow a s => ?row⟩
  case u1 =>
    have ht := layoutOf_of_not_mem_supported hmem
    rw [runRequest_eq_runOp (r := .asduEnc a) (typedAsdu_of_no_layout ht rfl), runOp, asduEnc_of_no_layout ht s.cfg rfl]
    rfl
  case row =>
    obtain ⟨lay, hlay, -⟩ := typeRow_facts hrow
    have hon : OnRow t mk lay := ⟨hrow, hlay⟩
    refine ⟨fun hcount => hon.asduEnc_eq (asduEncRow_of_not_countOk hcount),
      fun hcount hcause => hon.asduEnc_eq (asduEncRow_of_bodyEnc_error hcount
        (bodyEnc_of_cot_error (cotEnc_of_cause hcause))),
      fun hcount hcause hoa => hon.asduEnc_eq (asduEncRow_of_bodyEnc_error hcount
        (bodyEnc_of_cot_error (cotEnc_of_not_oaOk hcause hoa))),
      fun hcount hcause hoa hca => hon.asduEnc_eq (asduEncRow_of_bodyEnc_error hcount
        (bodyEnc_of_ca hcause hoa hca)),
      fun hhead hsq i o ho hvalues haddrs => ?set, fun hhead hsq b hb => ?sequence⟩
    case set =>
      have of_object : ∀ e, setEnc s.cfg.ioaW o = .error e → gives (exec (mk (.asduEnc a)) s) s (.err e) := fun e he =>
        hon.asduEnc_eq (asduEncRow_of_area_error hhead (areaEnc_set_error hsq ho he hvalues haddrs))
      refine ⟨fun hioa => of_object (headerRange .ioa) ?_, fun e hioa hfail => of_object e ?_⟩
      · rw [setEnc, addrEnc_of_le hioa, joined_error_left]
      · rw [setEnc, addrEnc_of_lt hioa, encRecord_eq_error_of_firstFails hfail, joined_error_right]
    case sequence =>
      obtain ⟨rest, hobjs, harea⟩ := areaEnc_seq_eq (k := s.cfg.ioaW) hsq hb
      have of_area : ∀ e, seqArea s.cfg.ioaW (b :: rest) = .error e → gives (exec (mk (.asduEnc a)) s) s (.err e) :=
        fun e he => hon.asduEnc_eq (asduEncRow_of_area_error hhead (harea.trans he))
      refine ⟨fun hioa => of_area _ (seqArea_of_base hioa), fun hioa j p hp hwrong hbelow => of_area _ ?x3,
        fun hioa hall j p e hp hvalues hfail => of_area e ?element⟩
      case x3 =>
        rw [hobjs] at hp hbelow
        rw [seqArea_of_firstWrong hioa (firstWrong_eq_some hp hwrong hbelow), Nat.zero_add]
      case element =>
        rw [hobjs] at hall hp
        rw [seqArea_of_consecutive (firstWrong_eq_none_iff.2 hall), addrEnc_of_lt hioa,
          encAll_eq_error hp (encRecord_eq_error_of_firstFails hfail), joined_error_right]
        exact fun i hi q hq => encRecord_ok_of_valuesEncodeBelow hvalues hi (hobjs ▸ hq)

/-! ### A record that fits (R283, R285) -/

/-- An area encodes when its values do and its addresses fit: all of them in set layout, the base in sequence layout. -/
theorem areaEnc_ok {k : Nat} {a : AsduBody} (hcount : CountOk a) (hvalues : ValuesEncodeBelow a a.n)
    (haddrs : if a.sq then ∃ b, b < 2 ^ (8 * k) ∧ ∀ i p, a.objs[i]? = some p → p.ioa = b + i
      else ∀ p ∈ a.objs, p.ioa < 2 ^ (8 * k)) : ∃ S, areaEnc k a = .ok S := by
  obtain ⟨hpos, -, hn⟩ := hcount
  have value_encodes : ∀ o ∈ a.objs, ∃ S, encRecord o.val = .ok S := by
    intro o ho
    obtain ⟨i, hi⟩ := List.getElem?_of_mem ho
    have hlt := (List.getElem?_eq_some_iff.1 hi).1
    exact encRecord_ok_of_valuesEncodeBelow hvalues (hlt.trans_eq hn) hi
  cases hsq : a.sq with
  | false =>
    rw [hsq, if_neg Bool.false_ne_true] at haddrs
    rw [areaEnc, hsq, if_neg Bool.false_ne_true, setArea_eq_encAll]
    refine encAll_ok fun o ho => ?_
    obtain ⟨S, hS⟩ := value_encodes o ho
    rw [setEnc, addrEnc_of_lt (haddrs o ho), hS, joined_ok]
    exact ⟨_, rfl⟩
  | true =>
    rw [hsq, if_pos rfl] at haddrs
    obtain ⟨base, hbase, hfollow⟩ := haddrs
    obtain ⟨b, rest, hobjs⟩ := List.exists_cons_of_length_pos (hpos.trans_eq hn.symm)
    rw [hobjs] at hfollow value_encodes
    have hb : b.ioa = base := hfollow 0 b rfl
    obtain ⟨T, hT⟩ := encAll_ok value_encodes
    rw [areaEnc, hsq, if_pos rfl, hobjs, seqArea_of_consecutive (firstWrong_eq_none_iff.2 (hb.symm ▸ hfollow)),
      addrEnc_of_lt (hb.symm ▸ hbase), hT, joined_ok]
    exact ⟨_, rfl⟩

/-- Settles O23: the record encodes because its area does, and the span is one that carries it. -/
theorem asduEncodeResult : Obligations.AsduEncodeResult := by
  intro t mk lay a s hrow hlay hcfg hhead htyped hvalues haddrs
  have hon : OnRow t mk lay := ⟨hrow, hlay⟩
  obtain ⟨S, hS⟩ := areaEnc_ok hhead.1 hvalues haddrs
  obtain ⟨head, henc⟩ := asduEncRow_of_headerOk hhead t
  rw [hS] at henc
  obtain ⟨-, hlen, ⟨hti, hn, hsq, hcot, hca⟩, hobjs⟩ := (asduEncRow_eq_ok_iff hcfg htyped).1 henc
  rw [cotDec_drop_two] at hcot
  refine ⟨_, hon.asduEnc_eq henc, hlen, hti, hn, hsq, by rw [hcot], by rw [hcot], by rw [hcot], fun x hx => ?oa,
    hca.symm, fun i o ho => ?object⟩
  case oa =>
    rw [hcot] at hx
    by_cases hw : s.cfg.cotW = 2
    · exact Option.some.inj ((if_pos hw).symm.trans hx)
    · cases (if_neg hw).symm.trans hx
  case object =>
    obtain ⟨haddr, hval⟩ := hobjs i o ho
    exact ⟨haddr.symm, encodesTo_of_encRecord hval⟩

end Sys2Proof
end

section
/-! PROOF of the statement about the round trips of the ASDU codec (46_asdu R286). ASDU_DEC and ASDU_ENC are the same
predicate of a span and a record, `AsduAt`, but for how they take the bytes of an element value; so a round trip of
ASDUs is one of element values. -/
namespace Sys2Proof
open Sys2Proof.Machine Sys2Proof.Claims

/-! ### The round trips of an element value (R191, R87) -/

theorem decFields_cons_eq_ok {e : Elem} {f : FieldName} {lay : Layout} {S : Span} {v : Record}
    (h : decFields ((e, f) :: lay) S = .ok v) : ∃ x rest, v = (f, x) :: rest ∧
      elemDecode e (S.take (elemWidth e)) = .ok x ∧ decFields lay (S.drop (elemWidth e)) = .ok rest := by
  simp only [decFields] at h
  cases hx : elemDecode e (S.take (elemWidth e)) with
  | error _ => rw [hx] at h; cases h
  | ok x =>
    cases hrest : decFields lay (S.drop (elemWidth e)) with
    | error _ => rw [hx, hrest] at h; cases h
    | ok rest =>
      rw [hx, hrest] at h
      exact ⟨x, rest, (Except.ok.inj h).symm, rfl, rfl⟩

theorem elem_of_elemDecode {e : Elem} {S : Span} {x : ElemV} (h : elemDecode e S = .ok x) : x.elem = e := by
  obtain ⟨y, hy, helem, -⟩ := (elemLaws e).encode_decode S ((elemLaws e).length_of_decode S x h)
  cases h.symm.trans hy
  exact helem

/-- What ELEM_DEC gives is a record of the layout. -/
theorem typedRecord_of_decFields {lay : Layout} {S : Span} {v : Record} (h : decFields lay S = .ok v) :
    typedRecord lay v = true := by
  induction lay generalizing S v with
  | nil => cases h; rfl
  | cons p lay ih =>
    obtain ⟨x, rest, rfl, hx, hrest⟩ := decFields_cons_eq_ok h
    simp [typedRecord, elem_of_elemDecode hx, ih hrest]

/-- Encoding undoes decoding on the bytes of an element value whose reserved bits are 0 (R87). -/
theorem encRecord_of_decFields {lay : Layout} {S : Span} {v : Record} (h : decFields lay S = .ok v)
    (hlen : S.length = layoutWidth lay) (hzero : ValueReservedZero lay S) : encRecord v = .ok S := by
  induction lay generalizing S v with
  | nil => cases h; rw [List.length_eq_zero_iff.1 hlen]; rfl
  | cons p lay ih =>
    obtain ⟨e, f⟩ := p
    obtain ⟨x, rest, rfl, hx, hrest⟩ := decFields_cons_eq_ok h
    obtain ⟨hzeroHead, hzeroTail⟩ := hzero
    rw [layoutWidth] at hlen
    have henc : elemEncode x = .ok (S.take (elemWidth e)) := ((elemLaws e).encode_eq_iff hx).2 hzeroHead
    have hencRest : encRecord rest = .ok (S.drop (elemWidth e)) :=
      ih hrest (by rw [List.length_drop]; omega) hzeroTail
    rw [encRecord_cons_of_ok henc hencRest, List.take_append_drop]

theorem decFields_of_decodedFrom {t : Byte} {lay : Layout} {v : Record} {S : Span} (h : DecodedFrom t lay v S) :
    S.length = layoutWidth lay ∧ decFields lay S = .ok v := by
  have hlen : S.length = layoutWidth lay := by
    by_contra hne
    cases (elemDecRow_of_length_ne t hne).symm.trans h
  exact ⟨hlen, (elemDecRow_of_length t hlen).symm.trans h⟩

theorem decodedFrom_of_encodedTo {t : Byte} {lay : Layout} {v : Record} {S : Span} (hv : typedRecord lay v = true)
    (h : EncodedTo v S) : DecodedFrom t lay v S := by
  obtain ⟨hlen, hdec⟩ := decFields_of_encRecord hv h
  exact (elemDecRow_of_length t hlen).trans hdec

theorem encodedTo_of_decodedFrom {t : Byte} {lay : Layout} {v : Record} {S : Span} (h : DecodedFrom t lay v S)
    (hzero : ValueReservedZero lay S) : EncodedTo v S := by
  obtain ⟨hlen, hdec⟩ := decFields_of_decodedFrom h
  exact encRecord_of_decFields hdec hlen hzero

/-! ### The round trips of an ASDU (R286) -/

/-- Every object that decodes has a value of the type. -/
theorem typedObjs_of_asduAt {c : Cfg} {t : Byte} {lay : Layout} {a : AsduBody} {A : Span}
    (h : AsduAt c (layoutWidth lay) (DecodedFrom t lay) t a A) : typedObjs lay a.objs = true := by
  refine List.all_eq_true.2 fun o ho => ?_
  obtain ⟨i, hi⟩ := List.getElem?_of_mem ho
  obtain ⟨-, hval⟩ := h.objects i o hi
  exact typedRecord_of_decFields (decFields_of_decodedFrom hval).2

/-- An answer of an ASDU and of nothing else is the record computed. -/
theorem eq_ok_of_answer_asdu {r : Except Err Asdu} {s : State} {a : Asdu}
    (h : gives (answer (r.map .asdu) s) s (.asdu a)) : r = .ok a := by
  cases r with
  | ok S => simpa [Except.map, reply_eq] using h
  | error e => simp [Except.map, reply_eq] at h

/-- ASDU_DEC undoes ASDU_ENC: the span carries the record by its encodings, so it does by their decodings. -/
theorem asduDecWith_of_asduEncRow {c : Cfg} (hcfg : c.Ok) {t : Byte} {lay : Layout} {a : AsduBody} {A : Span}
    (htyped : typedObjs lay a.objs = true) (h : asduEncRow c t a = .ok A) :
    asduDecWith c (some lay) A = .ok { a with ti := t } := by
  have hat := (asduEncRow_eq_ok_iff hcfg htyped).1 h
  exact asduDecWith_eq_ok_iff.2 (hat.imp fun i o ho hval =>
    decodedFrom_of_encodedTo (List.all_eq_true.1 htyped o (List.mem_of_getElem? ho)) hval)

/-- ASDU_ENC undoes ASDU_DEC where the reserved bits of the element values are 0. -/
theorem asduEncRow_of_asduDecWith {c : Cfg} (hcfg : c.Ok) {lay : Layout} {a : Asdu} {A : Span}
    (hlay : layoutOf (at' A 0) = some lay) (h : asduDecWith c (some lay) A = .ok a) (hzero : AsduReservedZero c A) :
    asduEncRow c a.ti a.toAsduBody = .ok A := by
  have hat := asduDecWith_eq_ok_iff.1 h
  refine (asduEncRow_eq_ok_iff hcfg (typedObjs_of_asduAt hat)).2 (hat.imp fun i o ho hval => ?_)
  obtain ⟨-, -, hcount⟩ := hat.count
  have hi : i < bits (at' A 1) 0 7 := by
    rw [hat.header.n, ← hcount]; exact (List.getElem?_eq_some_iff.1 ho).1
  have hvalue := hzero lay hlay i hi
  rw [hat.header.sq] at hvalue
  exact encodedTo_of_decodedFrom hval hvalue

theorem exists_cons_of_at'_zero {t : Byte} {A : Span} (hlen : 1 ≤ A.length) (h : at' A 0 = t) :
    ∃ rest, A = t :: rest := by
  obtain ⟨b, rest, rfl⟩ := List.exists_cons_of_length_pos hlen
  cases h
  exact ⟨rest, rfl⟩

/-- Settles O24: both round trips, on the row of the type. -/
theorem asduRoundTrip : Obligations.AsduRoundTrip := by
  intro t mk lay s hrow hlay hcfg
  have hon : OnRow t mk lay := ⟨hrow, hlay⟩
  refine ⟨fun a out htyped hgives => ?decode_encode, fun rest a hgives hzero => ?encode_decode⟩
  case decode_encode =>
    rw [hon.asduEnc_eq rfl] at hgives
    have henc := eq_ok_of_answer_bytes hgives
    have hat := (asduEncRow_eq_ok_iff hcfg htyped).1 henc
    have hlen := hdr_le_of_length hat.length
    rw [hdr] at hlen
    obtain ⟨rest, rfl⟩ := exists_cons_of_at'_zero (by omega) hat.header.ti
    exact ⟨rest, rfl, hon.asduDec_eq (asduDecWith_of_asduEncRow hcfg htyped henc)⟩
  case encode_decode =>
    rw [hon.asduDec_eq rfl] at hgives
    have hdec := eq_ok_of_answer_asdu hgives
    have hti : t = a.ti := (asduDecWith_eq_ok_iff.1 hdec).header.ti
    have henc := asduEncRow_of_asduDecWith (A := t :: rest) hcfg hlay hdec hzero
    rw [← hti] at henc
    exact hon.asduEnc_eq henc

end Sys2Proof
end

section
/-! PROOFS of the APCI codec (47_apci R290 to R299): what control byte 0 selects, the decoder and the encoder in each
format, and the spans that carry a record with the bits of R88 all 0, which the encoder gives and the decoder takes. -/
namespace Sys2Proof
open Sys2Proof.Machine Sys2Proof.Claims

/-! ### What control byte 0 selects (R72, R76, R89) -/

theorem uRows_eq_map : uRows = [.startdtAct, .startdtCon, .stopdtAct, .stopdtCon, .testfrAct, .testfrCon].map
    fun act => (act, uRow act, uCode act) := rfl

theorem mem_uRows_iff {u : UAct × (UOp → Instr) × Byte} : u ∈ uRows ↔ ∃ act, u = (act, uRow act, uCode act) := by
  rw [uRows_eq_map, List.mem_map]
  constructor
  · rintro ⟨act, -, rfl⟩; exact ⟨act, rfl⟩
  · rintro ⟨act, rfl⟩; exact ⟨act, by cases act <;> simp, rfl⟩

theorem uCode_mem_codes (act : UAct) : uCode act ∈ uRows.map (·.2.2) :=
  List.mem_map.2 ⟨_, mem_uRows_iff.2 ⟨act, rfl⟩, rfl⟩

theorem getLsbD_zero_eq_false_iff (b : Byte) : b.getLsbD 0 = false ↔ b.toNat % 2 = 0 := by
  simp [BitVec.getLsbD, Nat.testBit_zero]

theorem formatOf_eq_i_iff (c0 : Byte) : formatOf c0 = .i ↔ c0.getLsbD 0 = false := by
  rw [formatOf, flag_toNat]
  split
  next h => exact iff_of_true rfl h
  next h => split <;> simp [h]

/-- The two format bits are 01 in the byte's number modulo 4. -/
theorem field_format_eq_one_iff (c0 : Byte) :
    field c0.toNat 0 2 = 0b01 ↔ c0.getLsbD 0 = true ∧ c0.getLsbD 1 = false := by
  rw [field_eq, BitVec.getLsbD, BitVec.getLsbD, Nat.testBit_eq_decide_div_mod_eq, Nat.testBit_eq_decide_div_mod_eq,
    decide_eq_true_eq, decide_eq_false_iff_not]
  omega

theorem formatOf_eq_s_iff (c0 : Byte) : formatOf c0 = .s ↔ c0.getLsbD 0 = true ∧ c0.getLsbD 1 = false := by
  rw [← field_format_eq_one_iff, formatOf, flag_toNat]
  split
  next h =>
    refine iff_of_false nofun fun hone => ?_
    obtain ⟨h0, -⟩ := (field_format_eq_one_iff c0).1 hone
    cases h.symm.trans h0
  next => split <;> simp [*]

theorem formatOf_eq_u_none_iff (c0 : Byte) :
    formatOf c0 = .u none ↔ c0.getLsbD 0 = true ∧ c0.getLsbD 1 = true ∧ c0 ∉ uRows.map (·.2.2) := by
  have hi := formatOf_eq_i_iff c0
  have hs := formatOf_eq_s_iff c0
  constructor
  · intro hf
    have h0 : c0.getLsbD 0 = true := by simpa [hf] using hi
    refine ⟨h0, by simpa [hf, h0] using hs, fun hmem => ?_⟩
    obtain ⟨u, hu, rfl⟩ := List.mem_map.1 hmem
    obtain ⟨act, rfl⟩ := mem_uRows_iff.1 hu
    cases (formatOf_uCode act).symm.trans hf
  · rintro ⟨h0, h1, hmem⟩
    match hf : formatOf c0 with
    | .i => cases h0.symm.trans (hi.1 hf)
    | .s => cases h1.symm.trans (hs.1 hf).2
    | .u none => rfl
    | .u (some act) => exact absurd (eq_uCode_of_formatOf c0 act hf ▸ uCode_mem_codes act) hmem

/-! ### The decoder in each format (R290 to R293) -/

section
variable {c0 : Byte} (c1 c2 c3 : Byte)

theorem apciDec_of_i (hf : formatOf c0 = .i) :
    apciDec [c0, c1, c2, c3] = .ok (.i ((c1 ++ c0).toNat / 2) ((c3 ++ c2).toNat / 2)) := by
  simp [apciDec, hf, iDecode, leNat_two, Nat.shiftRight_one]

theorem apciDec_of_s (hf : formatOf c0 = .s) : apciDec [c0, c1, c2, c3] = .ok (.s ((c3 ++ c2).toNat / 2)) := by
  simp [apciDec, hf, sDecode, leNat_two, Nat.shiftRight_one]

theorem apciDec_uCode (act : UAct) : apciDec [uCode act, c1, c2, c3] = .ok (.u act) := by
  simp [apciDec, formatOf_uCode]

theorem apciDec_of_u_none (hf : formatOf c0 = .u none) :
    apciDec [c0, c1, c2, c3] = .error (.unsupportedType (.u2 c0)) := by
  simp [apciDec, hf]

end

theorem apciDec_of_length_ne {c : Span} (h : c.length ≠ 4) : apciDec c = .error (malformed .m5) := by
  unfold apciDec
  split
  next => simp at h
  next => rfl

/-- What decodes is four bytes of the I, the S or a U format. -/
theorem apciDec_eq_ok {c : Span} {a : Apci} (h : apciDec c = .ok a) : ∃ c0 c1 c2 c3, c = [c0, c1, c2, c3] ∧
    (formatOf c0 = .i ∧ a = .i ((c1 ++ c0).toNat / 2) ((c3 ++ c2).toNat / 2) ∨
      formatOf c0 = .s ∧ a = .s ((c3 ++ c2).toNat / 2) ∨ ∃ act, c0 = uCode act ∧ a = .u act) := by
  by_cases hlen : c.length = 4
  · obtain ⟨c0, c1, c2, c3, rfl⟩ := List.length_eq_four.1 hlen
    refine ⟨c0, c1, c2, c3, rfl, ?_⟩
    match hf : formatOf c0 with
    | .i => exact .inl ⟨rfl, Except.ok.inj (h.symm.trans (apciDec_of_i c1 c2 c3 hf))⟩
    | .s => exact .inr (.inl ⟨rfl, Except.ok.inj (h.symm.trans (apciDec_of_s c1 c2 c3 hf))⟩)
    | .u none => cases h.symm.trans (apciDec_of_u_none c1 c2 c3 hf)
    | .u (some act) =>
      obtain rfl := eq_uCode_of_formatOf c0 act hf
      exact .inr (.inr ⟨act, rfl, Except.ok.inj (h.symm.trans (apciDec_uCode c1 c2 c3 act))⟩)
  · cases h.symm.trans (apciDec_of_length_ne hlen)

/-! ### A sequence number in two bytes (R295, R296) -/

/-- A number is written in the upper 15 bits of a little-endian pair exactly when the pair is its double. -/
theorem leBytes_two_eq_iff {x : Nat} {b0 b1 : Byte} :
    x < 2 ^ 15 ∧ leBytes 2 (x <<< 1) = [b0, b1] ↔ (b1 ++ b0).toNat = 2 * x := by
  have hshift : x <<< 1 = 2 * x := by rw [Nat.shiftLeft_eq, pow_one, Nat.mul_comm]
  rw [hshift, ← leNat_two]
  constructor
  · rintro ⟨hx, hbytes⟩
    rw [← hbytes, leNat_leBytes (by omega)]
  · intro h
    have hlt : leNat [b0, b1] < 2 ^ 16 := leNat_lt [b0, b1]
    exact ⟨by omega, h ▸ leBytes_leNat [b0, b1]⟩

theorem exists_pair {x : Nat} (hx : x < 2 ^ 15) : ∃ b0 b1 : Byte, (b1 ++ b0).toNat = 2 * x :=
  ⟨_, _, leBytes_two_eq_iff.1 ⟨hx, rfl⟩⟩

/-- The lowest bit of a pair is that of its first byte. -/
theorem pair_mod_two (b0 b1 : Byte) : (b1 ++ b0).toNat % 2 = b0.toNat % 2 := by
  rw [toNat_append_byte]; omega

theorem getLsbD_zero_of_pair {x : Nat} {b0 b1 : Byte} (h : (b1 ++ b0).toNat = 2 * x) : b0.getLsbD 0 = false := by
  rw [getLsbD_zero_eq_false_iff, ← pair_mod_two b0 b1, h, Nat.mul_mod_right]

theorem pair_eq_two_mul_half {b0 : Byte} (h : b0.getLsbD 0 = false) (b1 : Byte) :
    (b1 ++ b0).toNat = 2 * ((b1 ++ b0).toNat / 2) := by
  have hmod := (pair_mod_two b0 b1).trans ((getLsbD_zero_eq_false_iff b0).1 h)
  omega

/-! ### The spans that carry a record, their ignored bits 0 (R88) -/

/-- The four control bytes of the record, as R295 to R298 lay them out. -/
inductive ApciAt : Apci → Span → Prop
  | i {ns nr : Nat} {c0 c1 c2 c3 : Byte} (hns : (c1 ++ c0).toNat = 2 * ns) (hnr : (c3 ++ c2).toNat = 2 * nr) :
      ApciAt (.i ns nr) [c0, c1, c2, c3]
  | s {nr : Nat} {c2 c3 : Byte} (hnr : (c3 ++ c2).toNat = 2 * nr) : ApciAt (.s nr) [0x01, 0x00, c2, c3]
  | u (act : UAct) : ApciAt (.u act) [uCode act, 0x00, 0x00, 0x00]

/-- APCI_ENC gives the span that carries the record. -/
theorem apciEnc_eq_ok_iff {a : Apci} {c : Span} : apciEnc a = .ok c ↔ ApciAt a c := by
  constructor
  · intro h
    cases a with
    | i ns nr =>
      rw [apciEnc] at h
      split at h
      next => cases h
      next hns =>
        split at h
        next => cases h
        next hnr =>
          cases h
          exact .i (leBytes_two_eq_iff.1 ⟨Nat.not_le.1 hns, rfl⟩) (leBytes_two_eq_iff.1 ⟨Nat.not_le.1 hnr, rfl⟩)
    | s nr =>
      rw [apciEnc] at h
      split at h
      next => cases h
      next hnr => cases h; exact .s (leBytes_two_eq_iff.1 ⟨Nat.not_le.1 hnr, rfl⟩)
    | u act => cases h; exact .u act
  · rintro (⟨hns, hnr⟩ | hnr | act)
    · obtain ⟨hns, hns_bytes⟩ := leBytes_two_eq_iff.2 hns
      obtain ⟨hnr, hnr_bytes⟩ := leBytes_two_eq_iff.2 hnr
      rw [apciEnc, if_neg (Nat.not_le.2 hns), if_neg (Nat.not_le.2 hnr), hns_bytes, hnr_bytes]; rfl
    · obtain ⟨hnr, hnr_bytes⟩ := leBytes_two_eq_iff.2 hnr
      rw [apciEnc, if_neg (Nat.not_le.2 hnr), hnr_bytes]
    · rfl

theorem apciDec_of_apciAt {a : Apci} {c : Span} (h : ApciAt a c) : apciDec c = .ok a := by
  cases h with
  | i hns hnr =>
    rw [apciDec_of_i _ _ _ ((formatOf_eq_i_iff _).2 (getLsbD_zero_of_pair hns)), hns, hnr,
      Nat.mul_div_cancel_left _ two_pos, Nat.mul_div_cancel_left _ two_pos]
  | s hnr => rw [apciDec_of_s _ _ _ (by decide), hnr, Nat.mul_div_cancel_left _ two_pos]
  | u act => exact apciDec_uCode _ _ _ act

/-- Each clause of R88 is that of one format, for the format bits of the others differ. -/
theorem apciAt_of_apciDec {a : Apci} {c : Span} (h : apciDec c = .ok a) (hzero : ApciIgnoredZero c) : ApciAt a c := by
  obtain ⟨c0, c1, c2, c3, rfl, hcases⟩ := apciDec_eq_ok h
  simp only [ApciIgnoredZero, at', List.getD_cons_zero, List.getD_cons_succ] at hzero
  obtain ⟨hf, rfl⟩ | ⟨hf, rfl⟩ | ⟨act, rfl, rfl⟩ := hcases
  · have h0 := (formatOf_eq_i_iff c0).1 hf
    obtain ⟨-, h2⟩ | ⟨rfl, -⟩ | ⟨h0', -⟩ := hzero
    · exact .i (pair_eq_two_mul_half h0 c1) (pair_eq_two_mul_half h2 c3)
    · cases h0
    · cases h0.symm.trans h0'
  · obtain ⟨h0, h1⟩ := (formatOf_eq_s_iff c0).1 hf
    obtain ⟨h0', -⟩ | ⟨rfl, rfl, h2⟩ | ⟨-, h1', -⟩ := hzero
    · cases h0.symm.trans h0'
    · exact .s (pair_eq_two_mul_half h2 c3)
    · cases h1.symm.trans h1'
  · have hf := formatOf_uCode act
    obtain ⟨h0, -⟩ | ⟨hcode, -⟩ | ⟨-, -, rfl, rfl, rfl⟩ := hzero
    · cases hf.symm.trans ((formatOf_eq_i_iff _).2 h0)
    · cases hf.symm.trans (hcode ▸ (by decide : formatOf 0x01 = Format.s))
    · exact .u act

/-! ### X1 of a number of 2^15 or more (R295) -/

theorem apciEnc_i_of_not_inRange {ns nr : Nat} (h : 2 ^ 15 ≤ ns ∨ 2 ^ 15 ≤ nr) : ∃ f : RangeField,
    (f = .ns ∧ 2 ^ 15 ≤ ns ∨ f = .nr ∧ 2 ^ 15 ≤ nr) ∧ apciEnc (.i ns nr) = .error (.encodeError (.x1 f)) := by
  by_cases hns : 2 ^ 15 ≤ ns
  · exact ⟨.ns, .inl ⟨rfl, hns⟩, if_pos hns⟩
  · have hnr := h.resolve_left hns
    exact ⟨.nr, .inr ⟨rfl, hnr⟩, (if_neg hns).trans (if_pos hnr)⟩

theorem apciEnc_s_of_not_inRange {nr : Nat} (h : 2 ^ 15 ≤ nr) : apciEnc (.s nr) = .error (.encodeError (.x1 .nr)) :=
  if_pos h

/-! ### The codec as operations -/

/-- An operation answers with a value, and with nothing else, exactly when it computes that value. -/
theorem gives_answer_iff {α : Type} {f : α → Response} (hinj : Function.Injective f) (hval : ∀ x e, f x ≠ .err e)
    {r : Except Err α} {s : State} {x : α} : gives (answer (r.map f) s) s (f x) ↔ r = .ok x := by
  cases r with
  | ok y => simp [Except.map, reply_eq, hinj.eq_iff]
  | error e => simp [Except.map, reply_eq, (hval x e).symm]

section
variable {s : State} {a : Apci} {c : Span} {i : Instr}

theorem gives_apciDec_iff : gives (runRequest (.apciDec c) s) s (.apci a) ↔ apciDec c = .ok a := by
  rw [runRequest_eq_runOp rfl]
  exact gives_answer_iff (fun _ _ => Response.apci.inj) (fun _ _ h => nomatch h)

theorem gives_apciEnc_iff : gives (runRequest (.apciEnc a) s) s (.bytes c) ↔ apciEnc a = .ok c := by
  rw [runRequest_eq_runOp rfl]
  exact gives_answer_iff (fun _ _ => Response.bytes.inj) (fun _ _ h => nomatch h)

theorem runRequest_apciDec_of_error {e : Err} (h : apciDec c = .error e) :
    gives (runRequest (.apciDec c) s) s (.err e) := by
  rw [runRequest_eq_runOp rfl, runOp, h]; rfl

theorem Selects.apciDec_ok (hsel : Selects (.apciDec c) i) (h : apciDec c = .ok a) :
    decode (.apciDec c) = .ok i ∧ gives (exec i s) s (.apci a) := by
  refine ⟨decode_of_selects hsel, ?_⟩
  rw [exec_eq_runOp hsel, runOp, h]; rfl

theorem Selects.apciEnc_ok (hsel : Selects (.apciEnc a) i) (h : ApciAt a c) : gives (exec i s) s (.bytes c) := by
  rw [exec_eq_runOp hsel, runOp, apciEnc_eq_ok_iff.2 h]; rfl

theorem Selects.apciEnc_error {f : RangeField} (hsel : Selects (.apciEnc a) i)
    (h : apciEnc a = .error (.encodeError (.x1 f))) : gives (exec i s) s (headErr f) := by
  rw [exec_eq_runOp hsel, runOp, h]; rfl

end

/-- Settles O25: the format of c0 selects the row, and the decoder's equation in that format is the result. -/
theorem apciDecode : Obligations.ApciDecode := by
  intro s
  refine ⟨fun c0 c1 c2 c3 h0 => ?i, fun c0 c1 c2 c3 h0 h1 => ?s, fun u hu c1 c2 c3 => ?u,
    fun c0 c1 c2 c3 h0 h1 hmem => ?u2, fun c hlen => ?m5⟩
  case i =>
    have hf := (formatOf_eq_i_iff c0).2 h0
    exact (Selects.ofI (.apciDec c0 c1 c2 c3) hf).apciDec_ok (apciDec_of_i c1 c2 c3 hf)
  case s =>
    have hf := (formatOf_eq_s_iff c0).2 ⟨h0, h1⟩
    exact (Selects.ofS (.apciDec c0 c1 c2 c3) hf).apciDec_ok (apciDec_of_s c1 c2 c3 hf)
  case u =>
    obtain ⟨act, rfl⟩ := mem_uRows_iff.1 hu
    exact (Selects.ofU act (.apciDec c1 c2 c3) trivial).apciDec_ok (apciDec_uCode c1 c2 c3 act)
  case u2 =>
    exact runRequest_apciDec_of_error (apciDec_of_u_none c1 c2 c3 ((formatOf_eq_u_none_iff c0).2 ⟨h0, h1, hmem⟩))
  case m5 => exact runRequest_apciDec_of_error (apciDec_of_length_ne hlen)

/-- Settles O27: a number in range has its pair of bytes, and the span of these pairs carries the record. -/
theorem apciEncode : Obligations.ApciEncode := by
  intro s
  refine ⟨fun ns nr hns hnr => ?i, fun ns nr h => ?i_x1, fun nr hnr => ?s, fun nr hnr => ?s_x1, fun u hu => ?u⟩
  case i =>
    obtain ⟨c0, c1, hns⟩ := exists_pair hns
    obtain ⟨c2, c3, hnr⟩ := exists_pair hnr
    exact ⟨c0, c1, c2, c3, hns, hnr, (Selects.ofI (.apciEnc ns nr) trivial).apciEnc_ok (.i hns hnr)⟩
  case i_x1 =>
    obtain ⟨f, hf, herr⟩ := apciEnc_i_of_not_inRange h
    exact ⟨f, hf, (Selects.ofI (.apciEnc ns nr) trivial).apciEnc_error herr⟩
  case s =>
    obtain ⟨c2, c3, hnr⟩ := exists_pair hnr
    exact ⟨c2, c3, hnr, (Selects.ofS (.apciEnc nr) trivial).apciEnc_ok (.s hnr)⟩
  case s_x1 => exact (Selects.ofS (.apciEnc nr) trivial).apciEnc_error (apciEnc_s_of_not_inRange hnr)
  case u =>
    obtain ⟨act, rfl⟩ := mem_uRows_iff.1 hu
    exact (Selects.ofU act .apciEnc trivial).apciEnc_ok (.u act)

/-- Settles O28: the spans the encoder gives and those the decoder takes with the bits of R88 at 0 are the same, those
that carry the record. -/
theorem apciRoundTrip : Obligations.ApciRoundTrip := by
  intro s
  refine ⟨fun a c henc => ?decode_encode, fun c a hdec hzero => ?encode_decode⟩
  case decode_encode => exact gives_apciDec_iff.2 (apciDec_of_apciAt (apciEnc_eq_ok_iff.1 (gives_apciEnc_iff.1 henc)))
  case encode_decode =>
    exact gives_apciEnc_iff.2 (apciEnc_eq_ok_iff.2 (apciAt_of_apciDec (gives_apciDec_iff.1 hdec) hzero))

/-! ### The counts (R294) -/

/-- The format names a U action. -/
def namesAction : Format → Bool
  | .u (some _) => true
  | _ => false

/-- What is tested of the format alone counts as the formats do. -/
theorem countP_of_formatOf {p : Byte → Bool} {F : Format → Bool} {bs : List Byte} {n : Nat}
    (hp : ∀ c, p c = F (formatOf c)) (hn : bs.countP (fun c => F (formatOf c)) = n) : bs.countP p = n := by
  rw [funext hp, hn]

/-- U2 with its byte is raised in no format but U without an action, whose format bits are 11 (R293). -/
theorem raises_u2_eq (c : Byte) :
    (apciDec [c, 0, 0, 0] == .error (.unsupportedType (.u2 c)) && c.getLsbD 0 && c.getLsbD 1) =
      (formatOf c == .u none) := by
  match hf : formatOf c with
  | .i => rw [apciDec_of_i 0 0 0 hf]; rfl
  | .s => rw [apciDec_of_s 0 0 0 hf]; rfl
  | .u (some act) =>
    obtain rfl := eq_uCode_of_formatOf c act hf
    rw [apciDec_uCode]; rfl
  | .u none =>
    obtain ⟨h0, h1, -⟩ := (formatOf_eq_u_none_iff c).1 hf
    rw [apciDec_of_u_none 0 0 0 hf, h0, h1]
    simp

/-- Settles O26: each result is that of one format, and the formats of the 256 bytes are counted. -/
theorem controlByteCounts : Obligations.ControlByteCounts := by
  refine ⟨countP_of_formatOf (F := (· == .i)) (fun c => ?i) (by decide +kernel),
    countP_of_formatOf (F := (· == .s)) (fun c => ?s) (by decide +kernel),
    countP_of_formatOf (F := namesAction) (fun c => ?u) (by decide +kernel),
    countP_of_formatOf (F := (· == .u none)) raises_u2_eq (by decide +kernel)⟩
  all_goals
    simp only [apciDec]
    rcases formatOf c with _ | _ | _ | _ <;> rfl

end Sys2Proof
end

section
/-! PROOFS of the statements about SPLIT and FEED (48_framer R300 to R307). A buffer is a row of slices and a rest at
which SPLIT stops (`SplitsInto`). It is so in one way only, and that is what SPLIT gives; so splitting a stream piece by
piece is splitting it as a whole. -/
namespace Sys2Proof
open Sys2Proof.Machine Sys2Proof.Claims

theorem gives_reply_iff {x y : Response} {s : State} : gives (reply x s) s y ↔ x = y := by simp [reply_eq]

/-! ### Where SPLIT stops (R300, R302) -/

/-- The tails that FEED keeps, in the cases of R306. -/
theorem tailOk_iff {S : Span} : tailOk S = true ↔
    S = [] ∨ S = [pStart] ∨ ∃ (L : Byte) (tl : Span), S = pStart :: L :: tl ∧ tl.length < L.toNat := by
  match S with
  | [] => simp [tailOk]
  | [b] => simp [tailOk]
  | b :: L :: tl => simp [tailOk, and_assoc]

/-- No slice begins the span: it is a tail that FEED keeps, or its first byte is no delimiter. -/
def Stuck (S : Span) : Prop := tailOk S = true ∨ ∃ b tl, S = b :: tl ∧ b ≠ pStart

/-- How the split loop ends on such a span at cursor p. -/
def endAt (p : Nat) : Span → SplitEnd
  | [] => .ok
  | b :: _ => if b = pStart then .m2 p else .m1 p

theorem splitFrom_of_stuck {S : Span} (h : Stuck S) (p : Nat) : splitFrom p S = ([], endAt p S) := by
  obtain htail | ⟨b, tl, rfl, hb⟩ := h
  · obtain rfl | rfl | ⟨L, tl, rfl, hshort⟩ := tailOk_iff.1 htail
    · rfl
    · exact splitFrom_lone p
    · exact splitFrom_short p L tl hshort
  · rw [splitFrom_badStart p tl hb, endAt, if_neg hb]

theorem splitFrom_slice_append {f : Span} (hf : IsSlice f) (p : Nat) (S : Span) : splitFrom p (f ++ S) =
    (f :: (splitFrom (p + f.length) S).1, (splitFrom (p + f.length) S).2) := by
  obtain ⟨L, tl, rfl, hlen⟩ := hf
  have hframe := splitFrom_frame p L (tl ++ S) (by rw [List.length_append]; omega)
  rwa [List.take_left' hlen, List.drop_left' hlen, ← hlen] at hframe

/-- Every span is stuck or begins with a slice. -/
theorem stuck_or_slice (S : Span) : Stuck S ∨ ∃ f T, S = f ++ T ∧ IsSlice f := by
  match S with
  | [] => exact .inl (.inl rfl)
  | b :: rest =>
    by_cases hb : b = pStart
    case neg => exact .inl (.inr ⟨b, rest, rfl, hb⟩)
    subst hb
    match rest with
    | [] => exact .inl (.inl (by decide))
    | L :: rest =>
      by_cases hfit : L.toNat ≤ rest.length
      · exact .inr ⟨pStart :: L :: rest.take L.toNat, rest.drop L.toNat, by simp,
          L, rest.take L.toNat, rfl, List.length_take_of_le hfit⟩
      · exact .inl (.inl (tailOk_iff.2 (.inr (.inr ⟨L, rest, rfl, Nat.not_le.1 hfit⟩))))

/-! ### A buffer as SPLIT sees it -/

/-- The buffer X is the slices fs one after the other, and then a rest that no slice begins. -/
structure SplitsInto (X : Span) (fs : List Span) (rest : Span) : Prop where
  eq : X = fs.flatten ++ rest
  slices : ∀ f ∈ fs, IsSlice f
  stuck : Stuck rest

theorem exists_splitsInto (X : Span) : ∃ fs rest, SplitsInto X fs rest := by
  induction hn : X.length using Nat.strong_induction_on generalizing X with
  | _ n ih =>
    subst hn
    obtain hstuck | ⟨f, T, rfl, hf⟩ := stuck_or_slice X
    · exact ⟨[], X, rfl, by simp, hstuck⟩
    · have hshorter : T.length < (f ++ T).length := by
        obtain ⟨L, tl, rfl, -⟩ := hf
        simp only [List.length_append, List.length_cons]; omega
      obtain ⟨fs, rest, rfl, hfs, hstuck⟩ := ih _ hshorter T rfl
      exact ⟨f :: fs, rest, by simp, List.forall_mem_cons.2 ⟨hf, hfs⟩, hstuck⟩

theorem splitFrom_flatten_append {fs : List Span} {rest : Span} (hfs : ∀ f ∈ fs, IsSlice f) (hrest : Stuck rest)
    (p : Nat) : splitFrom p (fs.flatten ++ rest) = (fs, endAt (p + fs.flatten.length) rest) := by
  induction fs generalizing p with
  | nil => exact splitFrom_of_stuck hrest p
  | cons f fs ih =>
    obtain ⟨hf, hfs⟩ := List.forall_mem_cons.1 hfs
    rw [List.flatten_cons, List.append_assoc, splitFrom_slice_append hf, ih hfs, List.length_append, Nat.add_assoc]

namespace SplitsInto
variable {X Y rest rest' : Span} {fs gs : List Span}

theorem split_eq (h : SplitsInto X fs rest) : split X = (fs, endAt fs.flatten.length rest) := by
  rw [h.eq, Machine.split_eq, splitFrom_flatten_append h.slices h.stuck, Nat.zero_add]

theorem unique (h : SplitsInto X fs rest) (h' : SplitsInto X gs rest') : fs = gs ∧ rest = rest' := by
  have hfs : fs = gs := congrArg Prod.fst (h.split_eq.symm.trans h'.split_eq)
  subst hfs
  exact ⟨rfl, List.append_cancel_left (h.eq.symm.trans h'.eq)⟩

/-- The rest and what follows it split on their own. -/
theorem append (h : SplitsInto X fs rest) (h' : SplitsInto (rest ++ Y) gs rest') :
    SplitsInto (X ++ Y) (fs ++ gs) rest' where
  eq := by rw [h.eq, List.append_assoc, h'.eq, List.flatten_append, List.append_assoc]
  slices := List.forall_mem_append.2 ⟨h.slices, h'.slices⟩
  stuck := h'.stuck

/-- A stream that ends in a tail splits into one at every earlier byte too: a wrong delimiter is never passed. -/
theorem tailOk_of_append (h : SplitsInto X gs rest) (hX : SplitsInto (X ++ Y) fs rest') (htail : tailOk rest' = true) :
    tailOk rest = true ∧ ∃ hs, fs = gs ++ hs ∧ SplitsInto (rest ++ Y) hs rest' := by
  obtain ⟨hs, r, hrest⟩ := exists_splitsInto (rest ++ Y)
  obtain ⟨rfl, rfl⟩ := hX.unique (h.append hrest)
  refine ⟨h.stuck.resolve_right ?_, hs, rfl, hrest⟩
  rintro ⟨b, tl, rfl, hb⟩
  have hbad : SplitsInto (b :: tl ++ Y) [] (b :: (tl ++ Y)) := ⟨rfl, by simp, .inr ⟨b, _, rfl, hb⟩⟩
  obtain ⟨-, rfl⟩ := hrest.unique hbad
  obtain hnil | hlone | ⟨L, tl', hcons, -⟩ := tailOk_iff.1 htail
  · cases hnil
  · exact hb (List.cons.inj hlone).1
  · exact hb (List.cons.inj hcons).1

end SplitsInto

/-! ### SPLIT as an operation -/

theorem runRequest_split {X : Span} {fs : List Span} {rest : Span} (h : SplitsInto X fs rest) (s : State) :
    runRequest (.split X) s = reply (.frames fs (splitStatus (endAt fs.flatten.length rest))) s := by
  rw [runRequest_eq_runOp rfl, runOp, h.split_eq]

/-- Settles O29: the status is that of the rest, in each of the cases in which no slice begins it. -/
theorem splitAccountsForBuffer : Obligations.SplitAccountsForBuffer := by
  intro s buf
  obtain ⟨fs, rest, h⟩ := exists_splitsInto buf
  refine ⟨fs, rest, _, h.eq, h.slices, runRequest_split h s, ?_⟩
  obtain htail | ⟨b, tl, rfl, hb⟩ := h.stuck
  · obtain rfl | rfl | ⟨L, tl, rfl, hshort⟩ := tailOk_iff.1 htail
    · exact .inl ⟨rfl, rfl⟩
    · exact .inr (.inr (.inl ⟨rfl, rfl⟩))
    · exact .inr (.inr (.inr ⟨L, tl, rfl, hshort, rfl⟩))
  · exact .inr (.inl ⟨b, tl, rfl, hb, by rw [endAt, if_neg hb]; rfl⟩)

/-- Settles O30: the slices are the split, with nothing left. -/
theorem splitLaw : Obligations.SplitLaw := fun s _ hfs =>
  runRequest_split (rest := []) ⟨(List.append_nil _).symm, hfs, .inl rfl⟩ s

/-! ### FEED (R304, R306) -/

theorem splitStatus_injective : Function.Injective splitStatus
  | .ok, .ok, _ => rfl
  | .m1 _, .m1 _, rfl => rfl
  | .m2 _, .m2 _, rfl => rfl

theorem runRequest_feed (b : Span) (s : State) : runRequest (.feed b) s = opFeed b s := runRequest_eq_runOp rfl s

/-- Settles O31: the status of SPLIT on tail and new bytes says how its loop ends, and that selects the case of FEED. -/
theorem feedCases : Obligations.FeedCases := by
  intro s b
  refine ⟨fun hstop => ?stopped, fun fs st hrun hsplit => ?run⟩
  case stopped => exact (runRequest_feed b s).trans (opFeed_of_stopped b hstop)
  case run =>
    rw [runRequest_eq_runOp rfl] at hsplit
    obtain ⟨rfl, rfl⟩ := Response.frames.inj (gives_reply_iff.1 hsplit)
    rw [runRequest_feed]
    refine ⟨fun hst => ?ok, fun p hst => ?m2, fun p hst => ?m1⟩
    case ok => exact opFeed_of_split_ok hrun (splitStatus_injective (a₂ := .ok) hst)
    case m2 => exact opFeed_of_split_m2 hrun (splitStatus_injective (a₂ := .m2 p) hst)
    case m1 => exact opFeed_of_split_m1 hrun (splitStatus_injective (a₂ := .m1 p) hst)

/-- Settles O32: the tail that the invariant allows, in the cases of R306, with one length byte. -/
theorem tailBound : Obligations.TailBound := by
  intro s t b hinv h
  have hcases := tailOk_iff.1 (inv_of_runRequest hinv h).tail_ok
  refine ⟨?_, hcases⟩
  obtain hnil | hlone | ⟨L, tl, hframe, hshort⟩ := hcases
  · simp [hnil]
  · simp [hlone]
  · have hL := L.isLt
    rw [hframe, List.length_cons, List.length_cons]
    omega

/-! ### Feeding a stream in pieces (R307) -/

/-- Where tail and new bytes end in a tail, FEED gives their slices and keeps that tail. -/
theorem opFeed_of_splitsInto {b rest : Span} {fs : List Span} {s : State} (hrun : s.framer = .run)
    (h : SplitsInto (s.rxbuf ++ b) fs rest) (htail : tailOk rest = true) :
    ∃ st, opFeed b s = reply (.frames fs st) (s.setTail rest) := by
  obtain rfl | ⟨tl, rfl⟩ : rest = [] ∨ ∃ tl, rest = pStart :: tl := by
    obtain rfl | rfl | ⟨L, tl, rfl, -⟩ := tailOk_iff.1 htail
    · exact .inl rfl
    · exact .inr ⟨_, rfl⟩
    · exact .inr ⟨_, rfl⟩
  · have hend := opFeed_of_split_ok hrun (congrArg Prod.snd h.split_eq)
    rw [h.split_eq] at hend
    exact ⟨_, hend⟩
  · have hend := opFeed_of_split_m2 hrun (congrArg Prod.snd h.split_eq)
    rw [h.split_eq, h.eq, List.drop_left] at hend
    exact ⟨_, hend⟩

theorem run_succ_of_step {M : Host.Core} {n : Nat} {s u : M.State} (h : M.step s = .next u) :
    M.run (n + 1) s = M.run n u := by
  rw [Host.Core.run, h]

/-- A run of FEEDs from any kept tail: the tail and the pieces together are split, slice by slice, into the frames given
and the tail left. -/
theorem run_feeds {xs fs : List Span} {rest : Span} {s : State} (hrun : s.framer = .run)
    (hreqs : s.reqs = xs.map .feed) (h : SplitsInto (s.rxbuf ++ xs.flatten) fs rest) (htail : tailOk s.rxbuf = true)
    (hrest : tailOk rest = true) :
    ∃ rs, Host.Core.run core xs.length s = .next { s with reqs := [], rxbuf := rest, resps := s.resps ++ rs } ∧
      rs.length = xs.length ∧ (∀ r ∈ rs, ∃ gs gst, r = .frames gs gst) ∧ rs.flatMap framesOf = fs := by
  induction xs generalizing s fs with
  | nil =>
    have hkept : SplitsInto (s.rxbuf ++ [].flatten) [] s.rxbuf := ⟨by simp, by simp, .inl htail⟩
    obtain ⟨rfl, rfl⟩ := h.unique hkept
    refine ⟨[], ?_, rfl, by simp, rfl⟩
    rw [List.append_nil, ← show s.reqs = [] from hreqs]
    rfl
  | cons x xs ih =>
    obtain ⟨gs, r, hx⟩ := exists_splitsInto (s.rxbuf ++ x)
    rw [List.flatten_cons, ← List.append_assoc] at h
    obtain ⟨hr, hs, rfl, hnext⟩ := hx.tailOk_of_append h hrest
    obtain ⟨st, hfeed⟩ := opFeed_of_splitsInto (s := s.setReqs (xs.map .feed)) hrun hx hr
    have hstep : core.step s = .next (((s.setReqs (xs.map .feed)).setTail r).respond (.frames gs st)) :=
      (step_pending s hreqs).trans ((runRequest_feed x _).trans hfeed)
    obtain ⟨rs, hrestRun, hlen, hframes, hflat⟩ :=
      ih (s := ((s.setReqs (xs.map .feed)).setTail r).respond (.frames gs st)) hrun rfl hnext hr
    refine ⟨.frames gs st :: rs, ?_, by simp [hlen], List.forall_mem_cons.2 ⟨⟨gs, st, rfl⟩, hframes⟩, ?_⟩
    · rw [List.length_cons, run_succ_of_step hstep, hrestRun, State.respond_resps, List.append_assoc]
      rfl
    · rw [List.flatMap_cons, hflat]; rfl

/-- Without M1 the rest is a tail, the one that the status says. -/
theorem tailOf_status {X rest : Span} {fs : List Span} (h : SplitsInto X fs rest)
    (hm1 : ∀ p, splitStatus (endAt fs.flatten.length rest) ≠ .error (.m1 p)) :
    tailOk rest = true ∧ tailOf X (splitStatus (endAt fs.flatten.length rest)) = rest := by
  obtain htail | ⟨b, tl, rfl, hb⟩ := h.stuck
  case inr => exact absurd (by rw [endAt, if_neg hb]; rfl) (hm1 fs.flatten.length)
  refine ⟨htail, ?_⟩
  obtain rfl | rfl | ⟨L, tl, rfl, -⟩ := tailOk_iff.1 htail
  · rfl
  · rw [h.eq]; exact List.drop_left
  · rw [h.eq]; exact List.drop_left

/-- Settles O33, by induction on the pieces (`run_feeds`), from the empty tail. -/
theorem chunkingInvariance : Obligations.ChunkingInvariance := by
  intro s xs fs st hrun hempty hreqs hsplit hm1
  obtain ⟨gs, rest, h⟩ := exists_splitsInto xs.flatten
  rw [runRequest_split h, gives_reply_iff] at hsplit
  obtain ⟨rfl, rfl⟩ := Response.frames.inj hsplit
  obtain ⟨hrest, htail⟩ := tailOf_status h hm1
  obtain ⟨rs, hresult⟩ := run_feeds hrun hreqs (by rwa [hempty]) (by rw [hempty]; rfl) hrest
  rw [htail]
  obtain ⟨hrunAll, hrs⟩ := hresult
  exact ⟨_, rs, hrunAll, rfl, hrs⟩

end Sys2Proof
end

section
/-! PROOFS of the statements about FRAME_DEC and COMPOSE (48_framer R308 to R314). Both go by way of where the control
bytes and the ASDU bytes stand in a frame (`FrameAt`): the round trip of frames is then that of the APCI and that of the
ASDU. -/
namespace Sys2Proof
open Sys2Proof.Machine Sys2Proof.Claims

/-! ### What an operation gives -/

theorem wellTyped_of_next {r : Request} {s t : State} (h : runRequest r s = .next t) : wellTyped r = true := by
  by_contra hw
  rw [runRequest_of_illTyped (Bool.not_eq_true _ ▸ hw)] at h
  cases h

/-- A request gives a result exactly when its operands are values of their types and the operation gives it. -/
theorem gives_runRequest_iff {r : Request} {s : State} {x : Response} :
    gives (runRequest r s) s x ↔ wellTyped r = true ∧ gives (runOp r s) s x :=
  ⟨fun h => ⟨wellTyped_of_next h, runOp_of_runRequest_next h⟩, fun ⟨hw, h⟩ => (runRequest_eq_runOp hw s).trans h⟩

theorem gives_answer_err_iff {α : Type} {f : α → Response} (hval : ∀ x e, f x ≠ .err e) {r : Except Err α} {s : State}
    {e : Err} : gives (answer (r.map f) s) s (.err e) ↔ r = .error e := by
  cases r with
  | ok y => simp [Except.map, reply_eq, hval y e]
  | error e' => simp [Except.map, reply_eq]

section
variable {s : State} {A : Span} {a : Asdu} {e : Err}

theorem gives_asduDec_iff : gives (runRequest (.asduDec A) s) s (.asdu a) ↔ asduDec s.cfg A = .ok a := by
  rw [runRequest_eq_runOp rfl]
  exact gives_answer_iff (fun _ _ => Response.asdu.inj) (fun _ _ h => nomatch h)

theorem gives_asduDec_err_iff : gives (runRequest (.asduDec A) s) s (.err e) ↔ asduDec s.cfg A = .error e := by
  rw [runRequest_eq_runOp rfl]
  exact gives_answer_err_iff (f := Response.asdu) fun _ _ h => nomatch h

theorem asduEnc_of_gives (h : gives (runRequest (.asduEnc a) s) s (.bytes A)) : asduEnc s.cfg a = .ok A :=
  eq_ok_of_answer_bytes (gives_runRequest_iff.1 h).2

theorem asduEnc_of_gives_err (h : gives (runRequest (.asduEnc a) s) s (.err e)) : asduEnc s.cfg a = .error e :=
  (gives_answer_err_iff (f := Response.bytes) fun _ _ h => nomatch h).1 (gives_runRequest_iff.1 h).2

end

theorem gives_frameDec_iff {s : State} {f : Span} {p : Apdu} :
    gives (runRequest (.frameDec f) s) s (.apdu p) ↔ frameDec s.cfg f = .ok p := by
  rw [runRequest_eq_runOp rfl]
  exact gives_answer_iff (fun _ _ => Response.apdu.inj) (fun _ _ h => nomatch h)

theorem gives_compose_iff {s : State} {p : Apdu} {f : Span} : gives (runRequest (.compose p) s) s (.bytes f) ↔
    wellTyped (.compose p) = true ∧ compose s.cfg p = .ok f :=
  gives_runRequest_iff.trans
    (and_congr_right' (gives_answer_iff (fun _ _ => Response.bytes.inj) (fun _ _ h => nomatch h)))

theorem runRequest_frameDec_of_error {f : Span} {s : State} {e : Err} (h : frameDec s.cfg f = .error e) :
    gives (runRequest (.frameDec f) s) s (.err e) := by
  rw [runRequest_eq_runOp rfl, runOp, h]; rfl

theorem Selects.frameDec_eq {f : Span} {i : Instr} {s : State} {r : Except Err Apdu} (hsel : Selects (.frameDec f) i)
    (hr : frameDec s.cfg f = r) : exec i s = answer (r.map .apdu) s := by
  rw [exec_eq_runOp hsel, ← hr]; rfl

theorem Selects.compose_eq {p : Apdu} {i : Instr} {s : State} {r : Except Err Span} (hsel : Selects (.compose p) i)
    (hr : compose s.cfg p = r) : exec i s = answer (r.map .bytes) s := by
  rw [exec_eq_runOp hsel, ← hr]; rfl

/-! ### Where the parts of a frame stand (R70, R308) -/

/-- The frame f of a length that the configuration takes: the delimiter, the length byte L, the four control bytes ctl
and the ASDU bytes A. -/
structure FrameAt (c : Cfg) (L : Byte) (ctl A f : Span) : Prop where
  eq : f = pStart :: L :: (ctl ++ A)
  control : ctl.length = 4
  length : L.toNat = 4 + A.length
  bound : L.toNat ≤ c.maxLen

/-- A slice that passes M1, M5, M3 and M4 is such a frame. -/
theorem frameAt_of_checks {c : Cfg} {f : Span} (hstart : at' f 0 = 0x68) (hsize : f.length = (at' f 1).toNat + 2)
    (hmin : 4 ≤ (at' f 1).toNat) (hmax : (at' f 1).toNat ≤ c.maxLen) :
    FrameAt c (at' f 1) [at' f 2, at' f 3, at' f 4, at' f 5] (f.drop 6) f := by
  match f with
  | b0 :: L :: c0 :: c1 :: c2 :: c3 :: A =>
    refine ⟨congrArg (· :: _) hstart, rfl, ?_, hmax⟩
    simp only [List.length_cons] at hsize
    simp only [List.drop_succ_cons, List.drop_zero]
    omega
  | [] | [_] | [_, _] | [_, _, _] | [_, _, _, _] | [_, _, _, _, _] =>
    simp only [List.length_cons, List.length_nil] at hsize
    omega

namespace FrameAt
variable {c : Cfg} {L : Byte} {ctl A f : Span}

theorem slice_eq (h : FrameAt c L ctl A f) : slice f 2 6 = ctl := by
  rw [h.eq, slice]
  exact List.take_left' h.control

theorem drop_eq (h : FrameAt c L ctl A f) : f.drop 6 = A := by
  rw [h.eq]
  exact List.drop_left' h.control

theorem asdu_eq_nil_iff (h : FrameAt c L ctl A f) : A = [] ↔ L.toNat = 4 := by
  rw [h.length, ← List.length_eq_zero_iff]; omega

end FrameAt

/-! ### FRAME_DEC, check by check (R308 to R311) -/

/-- An APDU without an ASDU, under the length byte L (R311). -/
def bareDec (L : Byte) (a : Apci) : Except Err Apdu :=
  if L.toNat ≠ 4 then .error (malformed (.m6 L.toNat)) else .ok { apci := a, asdu := none }

/-- M6. -/
theorem bareDec_of_ne {L : Byte} (a : Apci) (h : L.toNat ≠ 4) : bareDec L a = .error (malformed (.m6 L.toNat)) :=
  if_pos h

theorem bareDec_of_eq {L : Byte} (a : Apci) (h : L.toNat = 4) : bareDec L a = .ok { apci := a, asdu := none } :=
  if_neg (not_not.2 h)

theorem bareDec_eq_ok_iff {L : Byte} {a : Apci} {p : Apdu} :
    bareDec L a = .ok p ↔ L.toNat = 4 ∧ p = { apci := a, asdu := none } := by
  by_cases h : L.toNat = 4
  · simp [bareDec_of_eq a h, h, eq_comm]
  · simp [bareDec_of_ne a h, h]

/-- What FRAME_DEC makes of the bytes A behind a decoded APCI, under the length byte L (R310, R311). -/
def payloadDec (c : Cfg) (L : Byte) (A : Span) : Apci → Except Err Apdu
  | .i ns nr => (asduDec c A).map fun a => { apci := .i ns nr, asdu := some a }
  | .s nr => bareDec L (.s nr)
  | .u act => bareDec L (.u act)

section
variable {c : Cfg} {A : Span} (L : Byte) (ns nr : Nat)

theorem payloadDec_i_of_ok {a : Asdu} (h : asduDec c A = .ok a) :
    payloadDec c L A (.i ns nr) = .ok { apci := .i ns nr, asdu := some a } := by
  rw [payloadDec, h]; rfl

theorem payloadDec_i_of_error {e : Err} (h : asduDec c A = .error e) : payloadDec c L A (.i ns nr) = .error e := by
  rw [payloadDec, h]; rfl

end

section
variable {c : Cfg} {f : Span}

/-- M1. -/
theorem frameDec_of_badStart (h : f = [] ∨ at' f 0 ≠ 0x68) : frameDec c f = .error (malformed (.m1 0)) :=
  if_pos (h.imp_left List.length_eq_zero_iff.2)

section
variable (hne : f ≠ []) (hstart : at' f 0 = 0x68)
include hne hstart

theorem passes_m1 : ¬ (f.length = 0 ∨ byteAt f 0 ≠ pStart) :=
  not_or.2 ⟨mt List.length_eq_zero_iff.1 hne, not_not.2 hstart⟩

/-- M5. -/
theorem frameDec_of_badSize (h : f.length < 2 ∨ f.length ≠ (at' f 1).toNat + 2) :
    frameDec c f = .error (malformed .m5) :=
  (if_neg (passes_m1 hne hstart)).trans (if_pos h)

end

variable (hstart : at' f 0 = 0x68) (hsize : f.length = (at' f 1).toNat + 2)
include hstart hsize

theorem passes_m1_m5 : ¬ (f.length = 0 ∨ byteAt f 0 ≠ pStart) ∧
    ¬ (f.length < 2 ∨ f.length ≠ (byteAt f 1).toNat + 2) :=
  ⟨passes_m1 (List.ne_nil_of_length_pos (by omega)) hstart, not_or.2 ⟨by omega, not_not.2 hsize⟩⟩

/-- M3. -/
theorem frameDec_of_short (h : (at' f 1).toNat < 4) : frameDec c f = .error (malformed (.m3 (at' f 1).toNat)) := by
  obtain ⟨hm1, hm5⟩ := passes_m1_m5 hstart hsize
  exact (if_neg hm1).trans ((if_neg hm5).trans (if_pos h))

variable (hmin : 4 ≤ (at' f 1).toNat)
include hmin

/-- M4. -/
theorem frameDec_of_long (h : c.maxLen < (at' f 1).toNat) :
    frameDec c f = .error (malformed (.m4 (at' f 1).toNat)) := by
  obtain ⟨hm1, hm5⟩ := passes_m1_m5 hstart hsize
  exact (if_neg hm1).trans ((if_neg hm5).trans ((if_neg (Nat.not_lt.2 hmin)).trans (if_pos h)))

end

/-- Behind the checks of the length the control bytes decide, then what stands behind them. -/
theorem frameDec_of_frameAt {c : Cfg} {L : Byte} {ctl A f : Span} (h : FrameAt c L ctl A f) :
    frameDec c f = apciDec ctl >>= payloadDec c L A := by
  have hslice := h.slice_eq
  have hdrop := h.drop_eq
  obtain ⟨rfl, hctl, hlen, hmax⟩ := h
  obtain ⟨hm1, hm5⟩ := passes_m1_m5 (f := pStart :: L :: (ctl ++ A)) rfl (by
    simp only [List.length_cons, List.length_append, hctl, ← hlen]; rfl)
  have hm3 : ¬ L.toNat < 4 := by omega
  refine (if_neg hm1).trans ((if_neg hm5).trans ((if_neg hm3).trans ((if_neg (Nat.not_lt.2 hmax)).trans ?_)))
  refine (congrArg (apciDec · >>= _) hslice).trans (bind_congr fun a => ?_)
  rw [hdrop]
  cases a with
  | i ns nr =>
    rw [payloadDec]
    cases asduDec c A <;> rfl
  | s nr => rfl
  | u act => rfl

/-- What decodes passes the checks of the length. -/
theorem frameAt_of_frameDec {c : Cfg} {f : Span} {p : Apdu} (h : frameDec c f = .ok p) :
    ∃ L ctl A, FrameAt c L ctl A f := by
  have hm1 : f ≠ [] ∧ at' f 0 = 0x68 := by
    by_contra hbad
    rw [not_and_or, not_not] at hbad
    cases h.symm.trans (frameDec_of_badStart hbad)
  obtain ⟨hne, hstart⟩ := hm1
  have hsize : f.length = (at' f 1).toNat + 2 := by
    by_contra hbad
    cases h.symm.trans (frameDec_of_badSize hne hstart (.inr hbad))
  have hmin : 4 ≤ (at' f 1).toNat := by
    by_contra hbad
    cases h.symm.trans (frameDec_of_short hstart hsize (Nat.not_le.1 hbad))
  have hmax : (at' f 1).toNat ≤ c.maxLen := by
    by_contra hbad
    cases h.symm.trans (frameDec_of_long hstart hsize hmin (Nat.not_le.1 hbad))
  exact ⟨_, _, _, frameAt_of_checks hstart hsize hmin hmax⟩

/-- Settles O34: each check in turn, then the format of c0 selects the row and decodes the control bytes. -/
theorem frameDecode : Obligations.FrameDecode := by
  intro s f L c0
  refine ⟨fun h => ?m1, fun hne hstart h => ?m5, fun h2 hstart hsize => ⟨fun h => ?m3, fun hmin h => ?m4,
    fun hmin hmax => ?checked⟩⟩
  case m1 => exact runRequest_frameDec_of_error (frameDec_of_badStart h)
  case m5 => exact runRequest_frameDec_of_error (frameDec_of_badSize hne hstart h)
  case m3 => exact runRequest_frameDec_of_error (frameDec_of_short hstart hsize h)
  case m4 => exact runRequest_frameDec_of_error (frameDec_of_long hstart hsize hmin h)
  case checked =>
    have hlen : 3 ≤ f.length := by omega
    have of_apci {a : Except Err Apci} (ha : apciDec [c0, at' f 3, at' f 4, at' f 5] = a) :
        frameDec s.cfg f = a >>= payloadDec s.cfg (at' f 1) (f.drop 6) := by
      rw [frameDec_of_frameAt (frameAt_of_checks hstart hsize hmin hmax), ← ha]
    refine ⟨fun h0 h1 hmem => ?u2, fun h0 => ?i, fun h0 h1 => ?s, fun u hu hc0 => ?u⟩
    case u2 =>
      have hf := (formatOf_eq_u_none_iff c0).2 ⟨h0, h1, hmem⟩
      exact runRequest_frameDec_of_error (of_apci (apciDec_of_u_none _ _ _ hf))
    case i =>
      have hf := (formatOf_eq_i_iff c0).2 h0
      have hsel : Selects (.frameDec f) (.iFormat (.frameDec f)) := .ofI (.frameDec f) ⟨hlen, hf⟩
      have hframe := of_apci (apciDec_of_i _ _ _ hf)
      exact ⟨decode_of_selects hsel,
        fun a ha => hsel.frameDec_eq (hframe.trans (payloadDec_i_of_ok (at' f 1) _ _ (gives_asduDec_iff.1 ha))),
        fun e he => hsel.frameDec_eq (hframe.trans (payloadDec_i_of_error (at' f 1) _ _ (gives_asduDec_err_iff.1 he)))⟩
    case s =>
      have hf := (formatOf_eq_s_iff c0).2 ⟨h0, h1⟩
      have hsel : Selects (.frameDec f) (.sFormat (.frameDec f)) := .ofS (.frameDec f) ⟨hlen, hf⟩
      have hframe := of_apci (apciDec_of_s _ _ _ hf)
      exact ⟨decode_of_selects hsel, fun h4 => hsel.frameDec_eq (hframe.trans (bareDec_of_eq _ h4)),
        fun h4 => hsel.frameDec_eq (hframe.trans (bareDec_of_ne _ h4))⟩
    case u =>
      obtain ⟨act, rfl⟩ := mem_uRows_iff.1 hu
      have hf : formatOf c0 = .u (some act) := hc0 ▸ formatOf_uCode act
      have hsel : Selects (.frameDec f) (uRow act (.frameDec f)) := .ofU act (.frameDec f) ⟨hlen, hf⟩
      have hapci : apciDec [c0, at' f 3, at' f 4, at' f 5] = .ok (.u act) := by rw [hc0]; exact apciDec_uCode _ _ _ act
      have hframe := of_apci hapci
      exact ⟨decode_of_selects hsel, fun h4 => hsel.frameDec_eq (hframe.trans (bareDec_of_eq _ h4)),
        fun h4 => hsel.frameDec_eq (hframe.trans (bareDec_of_ne _ h4))⟩

/-! ### COMPOSE, check by check (R312, R313) -/

/-- The bytes that COMPOSE puts behind the control bytes, or the error that stands before X4. -/
def payloadEnc (c : Cfg) : Apdu → Except Err Span
  | { apci := .i _ _, asdu := some a } => asduEnc c a
  | { apci := .s _, asdu := none } => .ok []
  | { apci := .u _, asdu := none } => .ok []
  | _ => .error formatMismatch

theorem compose_eq_bind (c : Cfg) (p : Apdu) :
    compose c p = apciEnc p.apci >>= fun ctl => payloadEnc c p >>= frameOf c ctl := by
  match p with
  | ⟨.i _ _, some _⟩ | ⟨.i _ _, none⟩ | ⟨.s _, some _⟩ | ⟨.s _, none⟩ | ⟨.u _, some _⟩ | ⟨.u _, none⟩ => rfl

section
variable {c : Cfg} {p : Apdu} {ctl A : Span}

/-- X1. -/
theorem compose_of_apciEnc_error {e : Err} (h : apciEnc p.apci = .error e) : compose c p = .error e := by
  rw [compose_eq_bind, h]; rfl

/-- X5, or the error of ASDU_ENC. -/
theorem compose_of_payload_error {e : Err} (hctl : ApciAt p.apci ctl) (h : payloadEnc c p = .error e) :
    compose c p = .error e := by
  rw [compose_eq_bind, apciEnc_eq_ok_iff.2 hctl, h]; rfl

theorem compose_of_payload (hctl : ApciAt p.apci ctl) (h : payloadEnc c p = .ok A) :
    compose c p = frameOf c ctl A := by
  rw [compose_eq_bind, apciEnc_eq_ok_iff.2 hctl, h]; rfl

end

/-- X4. -/
theorem frameOf_of_long {c : Cfg} {A : Span} (ctl : Span) (h : c.maxLen < 4 + A.length) :
    frameOf c ctl A = .error (.encodeError (.x4 (4 + A.length))) := if_pos h

theorem frameOf_of_fits {c : Cfg} {A : Span} (ctl : Span) (h : 4 + A.length ≤ c.maxLen) :
    frameOf c ctl A = .ok (pStart :: byte (4 + A.length) :: (ctl ++ A)) := if_neg (Nat.not_lt.2 h)

/-- A length that the configuration takes is one byte's (R18). -/
theorem toNat_byte_of_fits {c : Cfg} (hcfg : c.Ok) {n : Nat} (h : n ≤ c.maxLen) : (byte n).toNat = n := by
  obtain ⟨-, -, -, -, hmax⟩ := hcfg
  rw [toNat_byte]; omega

theorem ApciAt.length {a : Apci} {ctl : Span} (h : ApciAt a ctl) : ctl.length = 4 := by cases h <;> rfl

theorem frameOf_eq_ok_iff {c : Cfg} (hcfg : c.Ok) {ctl A f : Span} (hctl : ctl.length = 4) :
    frameOf c ctl A = .ok f ↔ ∃ L, FrameAt c L ctl A f := by
  constructor
  · intro h
    have hfits : 4 + A.length ≤ c.maxLen := by
      by_contra hlong
      cases h.symm.trans (frameOf_of_long ctl (Nat.not_le.1 hlong))
    have hL := toNat_byte_of_fits hcfg hfits
    rw [frameOf_of_fits ctl hfits] at h
    exact ⟨_, (Except.ok.inj h).symm, hctl, hL, hL.trans_le hfits⟩
  · rintro ⟨L, rfl, -, hlen, hmax⟩
    rw [frameOf_of_fits ctl (hlen ▸ hmax), ← hlen, byte_toNat]

/-- COMPOSE gives the frames that carry the control bytes and the ASDU bytes of the APDU. -/
theorem compose_eq_ok_iff {c : Cfg} (hcfg : c.Ok) {p : Apdu} {f : Span} : compose c p = .ok f ↔
    ∃ L ctl A, FrameAt c L ctl A f ∧ ApciAt p.apci ctl ∧ payloadEnc c p = .ok A := by
  constructor
  · intro h
    cases hctl : apciEnc p.apci with
    | error e => cases h.symm.trans (compose_of_apciEnc_error hctl)
    | ok ctl =>
      have hat := apciEnc_eq_ok_iff.1 hctl
      cases hA : payloadEnc c p with
      | error e => cases h.symm.trans (compose_of_payload_error hat hA)
      | ok A =>
        rw [compose_of_payload hat hA, frameOf_eq_ok_iff hcfg hat.length] at h
        obtain ⟨L, hframe⟩ := h
        exact ⟨L, ctl, A, hframe, hat, rfl⟩
  · rintro ⟨L, ctl, A, hframe, hat, hA⟩
    rw [compose_of_payload hat hA, frameOf_eq_ok_iff hcfg hat.length]
    exact ⟨L, hframe⟩

theorem four_le_maxLen {c : Cfg} (hcfg : c.Ok) : 4 ≤ c.maxLen := by
  obtain ⟨-, -, -, hmin, -⟩ := hcfg
  exact hmin

/-- An S frame of a number in range. -/
theorem compose_s {c : Cfg} (hcfg : c.Ok) {nr : Nat} {c2 c3 : Byte} (hnr : (c3 ++ c2).toNat = 2 * nr) :
    compose c { apci := .s nr, asdu := none } = .ok [0x68, 4, 0x01, 0x00, c2, c3] :=
  (compose_of_payload (.s hnr) rfl).trans (frameOf_of_fits (A := []) _ (four_le_maxLen hcfg))

/-- A U frame. -/
theorem compose_u {c : Cfg} (hcfg : c.Ok) (act : UAct) :
    compose c { apci := .u act, asdu := none } = .ok [0x68, 4, uCode act, 0x00, 0x00, 0x00] :=
  (compose_of_payload (.u act) rfl).trans (frameOf_of_fits (A := []) _ (four_le_maxLen hcfg))

/-- Settles O35: each check in turn on the row of each format. -/
theorem composeFrame : Obligations.ComposeFrame := by
  intro s hcfg
  refine ⟨fun ns nr x h => ?i_x1, fun ns nr hns hnr => ?i, fun nr x hnr => ?s_x1, fun nr hnr => ?s, fun u hu => ?u⟩
  case i_x1 =>
    obtain ⟨f, hf, herr⟩ := apciEnc_i_of_not_inRange h
    exact ⟨f, hf, (Selects.ofI (.compose ns nr x) trivial).compose_eq (compose_of_apciEnc_error herr)⟩
  case i =>
    obtain ⟨c0, c1, hns⟩ := exists_pair hns
    obtain ⟨c2, c3, hnr⟩ := exists_pair hnr
    have hat : ApciAt (.i ns nr) [c0, c1, c2, c3] := .i hns hnr
    have hsel (x : Option Asdu) : Selects (.compose { apci := .i ns nr, asdu := x }) (.iFormat (.compose ns nr x)) :=
      .ofI (.compose ns nr x) trivial
    refine ⟨(hsel none).compose_eq (compose_of_payload_error hat rfl), fun a => ⟨fun e he => ?error, fun A hA => ?ok⟩⟩
    case error => exact (hsel a).compose_eq (compose_of_payload_error hat (asduEnc_of_gives_err he))
    case ok =>
      have hframe : compose s.cfg { apci := .i ns nr, asdu := some a } = frameOf s.cfg [c0, c1, c2, c3] A :=
        compose_of_payload hat (asduEnc_of_gives hA)
      exact ⟨fun hlong => (hsel a).compose_eq (hframe.trans (frameOf_of_long _ hlong)),
        fun hfits => ⟨byte (4 + A.length), c0, c1, c2, c3, toNat_byte_of_fits hcfg hfits, hns, hnr,
          (hsel a).compose_eq (hframe.trans (frameOf_of_fits _ hfits))⟩⟩
  case s_x1 =>
    exact (Selects.ofS (.compose nr x) trivial).compose_eq (compose_of_apciEnc_error (apciEnc_s_of_not_inRange hnr))
  case s =>
    obtain ⟨c2, c3, hnr⟩ := exists_pair hnr
    exact ⟨fun a => (Selects.ofS (.compose nr (some a)) trivial).compose_eq (compose_of_payload_error (.s hnr) rfl),
      c2, c3, hnr, (Selects.ofS (.compose nr none) trivial).compose_eq (compose_s hcfg hnr)⟩
  case u =>
    obtain ⟨act, rfl⟩ := mem_uRows_iff.1 hu
    exact ⟨fun a => (Selects.ofU act (.compose (some a)) trivial).compose_eq (compose_of_payload_error (.u act) rfl),
      (Selects.ofU act (.compose none) trivial).compose_eq (compose_u hcfg act)⟩

/-! ### The round trips (R314) -/

section
variable {c : Cfg} {a : Asdu} {A : Span}

theorem asduDec_of_asduEnc (hcfg : c.Ok) (htyped : typedAsdu a = true) (h : asduEnc c a = .ok A) :
    asduDec c A = .ok a := by
  cases hlay : layoutOf a.ti with
  | none => cases h.symm.trans (asduEnc_of_no_layout hlay c rfl)
  | some lay =>
    have htyped : typedObjs lay a.objs = true := by simpa [typedAsdu, hlay] using htyped
    have henc : asduEncRow c a.ti a.toAsduBody = .ok A := by simpa [asduEnc, hlay] using h
    have hti : byteAt A 0 = a.ti := ((asduEncRow_eq_ok_iff hcfg htyped).1 henc).header.ti
    rw [asduDec, hti, hlay]
    exact asduDecWith_of_asduEncRow hcfg htyped henc

theorem asduEnc_of_asduDec (hcfg : c.Ok) (h : asduDec c A = .ok a) (hzero : AsduReservedZero c A) :
    typedAsdu a = true ∧ asduEnc c a = .ok A := by
  rw [asduDec] at h
  cases hlay : layoutOf (byteAt A 0) with
  | none =>
    obtain ⟨e, he⟩ := asduDecWith_none c A
    rw [hlay] at h
    cases h.symm.trans he
  | some lay =>
    rw [hlay] at h
    have hat := asduDecWith_eq_ok_iff.1 h
    have hti : layoutOf a.ti = some lay := hat.header.ti ▸ hlay
    refine ⟨by simpa [typedAsdu, hti] using typedObjs_of_asduAt hat, ?_⟩
    simpa [asduEnc, hti] using asduEncRow_of_asduDecWith hcfg hlay h hzero

end

section
variable {c : Cfg} {L : Byte} {ctl A f : Span} {p : Apdu}

theorem payloadDec_of_payloadEnc (hcfg : c.Ok) (hframe : FrameAt c L ctl A f) (hw : wellTyped (.compose p) = true)
    (h : payloadEnc c p = .ok A) : payloadDec c L A p.apci = .ok p := by
  match p with
  | ⟨.i ns nr, some a⟩ => exact payloadDec_i_of_ok L ns nr (asduDec_of_asduEnc hcfg hw h)
  | ⟨.s nr, none⟩ => exact bareDec_of_eq _ (hframe.asdu_eq_nil_iff.1 (Except.ok.inj h).symm)
  | ⟨.u act, none⟩ => exact bareDec_of_eq _ (hframe.asdu_eq_nil_iff.1 (Except.ok.inj h).symm)

theorem payloadEnc_of_payloadDec {a : Apci} (hcfg : c.Ok) (hframe : FrameAt c L ctl A f)
    (h : payloadDec c L A a = .ok p) (hzero : AsduReservedZero c A) :
    p.apci = a ∧ wellTyped (.compose p) = true ∧ payloadEnc c p = .ok A := by
  have bare {x : Apci} (hx : bareDec L x = .ok p) : A = [] ∧ p = { apci := x, asdu := none } :=
    (bareDec_eq_ok_iff.1 hx).imp_left hframe.asdu_eq_nil_iff.2
  cases a with
  | i ns nr =>
    cases ha : asduDec c A with
    | error e => cases h.symm.trans (payloadDec_i_of_error L ns nr ha)
    | ok a =>
      cases h.symm.trans (payloadDec_i_of_ok L ns nr ha)
      obtain ⟨htyped, henc⟩ := asduEnc_of_asduDec hcfg ha hzero
      exact ⟨rfl, htyped, henc⟩
  | s nr => obtain ⟨rfl, rfl⟩ := bare h; exact ⟨rfl, rfl, rfl⟩
  | u act => obtain ⟨rfl, rfl⟩ := bare h; exact ⟨rfl, rfl, rfl⟩

end

/-- Settles O36: in the one place of the control bytes and the one of the ASDU bytes, each codec undoes the other. -/
theorem frameRoundTrip : Obligations.FrameRoundTrip := by
  intro s hcfg
  refine ⟨fun p f h => ?decode_compose, fun f p h hignored hzero => ?compose_decode⟩
  case decode_compose =>
    obtain ⟨hw, henc⟩ := gives_compose_iff.1 h
    obtain ⟨L, ctl, A, hframe, hat, hA⟩ := (compose_eq_ok_iff hcfg).1 henc
    rw [gives_frameDec_iff, frameDec_of_frameAt hframe, apciDec_of_apciAt hat]
    exact payloadDec_of_payloadEnc hcfg hframe hw hA
  case compose_decode =>
    have hdec := gives_frameDec_iff.1 h
    obtain ⟨L, ctl, A, hframe⟩ := frameAt_of_frameDec hdec
    rw [hframe.slice_eq] at hignored
    rw [hframe.drop_eq] at hzero
    rw [frameDec_of_frameAt hframe] at hdec
    cases hctl : apciDec ctl with
    | error e => rw [hctl] at hdec; cases hdec
    | ok a =>
      rw [hctl] at hdec
      obtain ⟨rfl, hw, hA⟩ := payloadEnc_of_payloadDec hcfg hframe hdec hzero
      exact gives_compose_iff.2 ⟨hw,
        (compose_eq_ok_iff hcfg).2 ⟨L, ctl, A, hframe, apciAt_of_apciDec hctl hignored, hA⟩⟩

end Sys2Proof
end

section
/-! PROOFS of the statements about the link operations (49_link_sequence R321 to R332, 60_exceptions R345). What each
does on a connected link is said once, on a closed one it is `linkRxI_of_closed` and its like; the count of the frames
sent over a run is then that of one step, added up. -/
namespace Sys2Proof
open Sys2Proof.Machine Sys2Proof.Claims

/-! ### The operations on a connected link (R322 to R327) -/

/-- The increment of a sequence number wraps (R330). -/
theorem toNat_add_one (x : Seq15) : (x + 1).toNat = (x.toNat + 1) % 2 ^ 15 := BitVec.toNat_add x 1

/-- An accepted number is V(S), and becomes LAST_ACK. -/
theorem accept_vs (s : State) : s.accept s.vs.toNat = { s with lastAck := s.vs, vr := s.vr + 1 } := by
  rw [State.accept, BitVec.ofNat_toNat, BitVec.setWidth_eq]

section
variable {s : State} (hl : s.link = .connected)
include hl

theorem linkRxI_of_match (a : Asdu) :
    linkRxI s.vr.toNat s.vs.toNat a s = reply (.verdict (.acceptI a)) (s.accept s.vs.toNat) := by
  simp [linkRxI, hl]

theorem linkRxI_of_mismatch {ns nr : Nat} (a : Asdu) (h : ¬ (nr = s.vs.toNat ∧ ns = s.vr.toNat)) :
    linkRxI ns nr a s = reply (.err (.sequenceViolation (.s1 s.vs.toNat s.vr.toNat nr ns))) s.close := by
  simp [linkRxI, hl, h, raise_eq]

theorem linkRxS_of_match : linkRxS s.vs.toNat s = reply (.verdict .acceptS) (s.accept s.vs.toNat) := by
  simp [linkRxS, hl]

theorem linkRxS_of_mismatch {nr : Nat} (h : nr ≠ s.vs.toNat) :
    linkRxS nr s = reply (.err (.sequenceViolation (.s2 s.vs.toNat nr))) s.close := by
  simp [linkRxS, hl, h, raise_eq]

theorem linkRxU_of_connected (act : UAct) : linkRxU act s = reply (.verdict (.control act)) s := by
  simp [linkRxU, hl]

theorem linkTxI_of_compose {a : Asdu} {f : Span}
    (h : compose s.cfg { apci := .i s.vs.toNat s.vr.toNat, asdu := some a } = .ok f) :
    linkTxI a s = reply (.bytes f) s.advanceVs := by
  simp [linkTxI, hl, h]

theorem linkTxI_of_compose_error {a : Asdu} {e : Err}
    (h : compose s.cfg { apci := .i s.vs.toNat s.vr.toNat, asdu := some a } = .error e) :
    linkTxI a s = reply (.err e) s := by
  simp [linkTxI, hl, h, raise_eq]

theorem linkTxS_of_compose {f : Span} (h : compose s.cfg { apci := .s s.vr.toNat, asdu := none } = .ok f) :
    linkTxS s = reply (.bytes f) (if s.cfg.sTxAdvancesVs then s.advanceVs else s) := by
  simp [linkTxS, hl, h]

theorem linkTxS_of_compose_error {e : Err} (h : compose s.cfg { apci := .s s.vr.toNat, asdu := none } = .error e) :
    linkTxS s = reply (.err e) s := by
  simp [linkTxS, hl, h, raise_eq]

theorem linkTxU_of_connected (act : UAct) :
    linkTxU act s = answer ((compose s.cfg { apci := .u act, asdu := none }).map .bytes) s := by
  simp [linkTxU, hl]

end

/-- Why an operation that sends a frame raises e (R325, R326, R345). -/
def SendFails (c : Cfg) (e : Err) : Prop := e = .connectionClosed ∨ ∃ p, compose c p = .error e

/-- All that LINK_TX_I can do. -/
theorem linkTxI_cases {a : Asdu} {s t : State} (h : linkTxI a s = .next t) :
    (∃ e, SendFails s.cfg e ∧ t = s.respond (.err e)) ∨ ∃ f, t = s.advanceVs.respond (.bytes f) := by
  cases hl : s.link with
  | closed =>
    cases (linkTxI_of_closed hl a).symm.trans h
    exact .inl ⟨_, .inl rfl, rfl⟩
  | connected =>
    cases hf : compose s.cfg { apci := .i s.vs.toNat s.vr.toNat, asdu := some a } with
    | error e =>
      cases (linkTxI_of_compose_error hl hf).symm.trans h
      exact .inl ⟨e, .inr ⟨_, hf⟩, rfl⟩
    | ok f =>
      cases (linkTxI_of_compose hl hf).symm.trans h
      exact .inr ⟨f, rfl⟩

/-- All that LINK_TX_S can do. -/
theorem linkTxS_cases {s t : State} (h : linkTxS s = .next t) :
    (∃ e, SendFails s.cfg e ∧ t = s.respond (.err e)) ∨
      ∃ f, t = (if s.cfg.sTxAdvancesVs then s.advanceVs else s).respond (.bytes f) := by
  cases hl : s.link with
  | closed =>
    cases (linkTxS_of_closed hl).symm.trans h
    exact .inl ⟨_, .inl rfl, rfl⟩
  | connected =>
    cases hf : compose s.cfg { apci := .s s.vr.toNat, asdu := none } with
    | error e =>
      cases (linkTxS_of_compose_error hl hf).symm.trans h
      exact .inl ⟨e, .inr ⟨_, hf⟩, rfl⟩
    | ok f =>
      cases (linkTxS_of_compose hl hf).symm.trans h
      exact .inr ⟨f, rfl⟩

/-- Settles O37: an accepted number is V(S), so LAST_ACK becomes V(S). -/
theorem receiveIFrame : Obligations.ReceiveIFrame := by
  intro s ns nr a hl
  refine ⟨?accepted, fun h => linkRxI_of_mismatch hl a h⟩
  rintro ⟨rfl, rfl⟩
  refine ⟨s.vr + 1, toNat_add_one s.vr, (linkRxI_of_match hl a).trans ?_⟩
  rw [accept_vs]; rfl

/-- Settles O38, as O37 with one number. -/
theorem receiveSFrame : Obligations.ReceiveSFrame := by
  intro s nr hl
  refine ⟨?accepted, fun h => linkRxS_of_mismatch hl h⟩
  rintro rfl
  refine ⟨s.vr + 1, toNat_add_one s.vr, (linkRxS_of_match hl).trans ?_⟩
  rw [accept_vs]; rfl

theorem exec_uRow (act : UAct) (op : UOp) (s : State) : exec (uRow act op) s = execURow act op s := by
  obtain ⟨-, -, hexec⟩ := uRow_facts act op
  exact hexec s

/-- Settles O39: the frame is that of COMPOSE, for each of the six actions alike. -/
theorem uFramesTouchNoCounter : Obligations.UFramesTouchNoCounter := by
  intro s hl hcfg u hu
  obtain ⟨act, rfl⟩ := mem_uRows_iff.1 hu
  refine ⟨(exec_uRow act .linkRx s).trans (linkRxU_of_connected hl act),
    (exec_uRow act .linkTx s).trans ((linkTxU_of_connected hl act).trans ?_)⟩
  rw [compose_u hcfg]; rfl

theorem compose_of_gives_err {s : State} {p : Apdu} {e : Err} (h : gives (runRequest (.compose p) s) s (.err e)) :
    compose s.cfg p = .error e :=
  (gives_answer_err_iff (f := Response.bytes) fun _ _ h => nomatch h).1 (gives_runRequest_iff.1 h).2

/-- Settles O40: LINK_TX_I composes the very APDU of the statement. -/
theorem sendIFrame : Obligations.SendIFrame := by
  intro s a hl p
  refine ⟨fun f h => ⟨s.vs + 1, toNat_add_one s.vs, ?_⟩, fun e h => ?_⟩
  · obtain ⟨-, hcompose⟩ := gives_compose_iff.1 h
    exact linkTxI_of_compose hl hcompose
  · exact linkTxI_of_compose_error hl (compose_of_gives_err h)

/-- Settles O41: an S frame always composes. -/
theorem sendSFrame : Obligations.SendSFrame := by
  intro s hl hcfg
  obtain ⟨c2, c3, hnr⟩ := exists_pair s.vr.isLt
  have hsend := linkTxS_of_compose hl (compose_s hcfg hnr)
  cases hadv : s.cfg.sTxAdvancesVs with
  | true =>
    rw [hadv] at hsend
    exact ⟨c2, c3, s.vs + 1, hnr, toNat_add_one s.vs, hsend⟩
  | false =>
    rw [hadv] at hsend
    exact ⟨c2, c3, s.vs, hnr, rfl, hsend⟩

/-- Settles O42: the cases of a closed link, on the row of each operation. -/
theorem closedLinkRefuses : Obligations.ClosedLinkRefuses := by
  intro s hl
  refine ⟨linkRxI_of_closed hl, linkRxS_of_closed hl, linkTxI_of_closed hl, linkTxS_of_closed hl, fun u hu => ?_⟩
  obtain ⟨act, rfl⟩ := mem_uRows_iff.1 hu
  exact ⟨(exec_uRow act .linkRx s).trans (linkRxU_of_closed hl act),
    (exec_uRow act .linkTx s).trans (linkTxU_of_closed hl act)⟩

theorem close_of_closed {s : State} (hl : s.link = .closed) : s.close = s := by
  rw [State.close, ← hl]

/-- Settles O43: a closed link that is closed is as it was. -/
theorem transportClosed : Obligations.TransportClosed := by
  intro s
  have hrun : runRequest .transportClosed s = reply .done s.close := runRequest_eq_runOp rfl s
  refine ⟨hrun, fun hl => ?_⟩
  rw [hrun, close_of_closed hl]
  rfl

/-! ### The frames sent over a run (R332) -/

/-- The number of frames in a run, of operations with their results, that advance V(S). -/
def sentCount (adv : Bool) (h : List (Request × Response)) : Nat := h.countP sentI + if adv then h.countP sentS else 0

theorem sentCount_append (adv : Bool) (h h' : List (Request × Response)) :
    sentCount adv (h ++ h') = sentCount adv h + sentCount adv h' := by
  cases adv <;> simp only [sentCount, List.countP_append, if_true, Bool.false_eq_true, if_false] <;> omega

/-- The operations qs take s to t with one result each, and V(S) counts the frames among them (R332). -/
def CountsSent (qs : List Request) (s t : State) : Prop :=
  ∃ rs, t.resps = s.resps ++ rs ∧ rs.length = qs.length ∧
    t.vs.toNat = (s.vs.toNat + sentCount s.cfg.sTxAdvancesVs (qs.zip rs)) % 2 ^ 15

theorem CountsSent.refl (s : State) : CountsSent [] s s :=
  ⟨[], (List.append_nil _).symm, rfl, by simp [sentCount, Nat.mod_eq_of_lt s.vs.isLt]⟩

theorem CountsSent.trans {qs qs' : List Request} {s u t : State} (h : CountsSent qs s u) (hcfg : u.cfg = s.cfg)
    (h' : CountsSent qs' u t) : CountsSent (qs ++ qs') s t := by
  obtain ⟨rs, hresps, hlen, hvs⟩ := h
  obtain ⟨rs', hresps', hlen', hvs'⟩ := h'
  refine ⟨rs ++ rs', by rw [hresps', hresps, List.append_assoc], by rw [List.length_append, List.length_append, hlen,
    hlen'], ?_⟩
  rw [List.zip_append hlen.symm, sentCount_append, hvs', hvs, hcfg, Nat.mod_add_mod, Nat.add_assoc]

/-- An operation that sends no frame and leaves V(S) as it is. -/
theorem countsSent_of_vs_eq {r : Request} {s u : State} {x : Response} (hresps : u.resps = s.resps) (hvs : u.vs = s.vs)
    (hI : sentI (r, x) = false) (hS : sentS (r, x) = false) : CountsSent [r] s (u.respond x) := by
  refine ⟨[x], by rw [State.respond_resps, hresps], rfl, ?_⟩
  simp [hvs, sentCount, hI, hS, Nat.mod_eq_of_lt s.vs.isLt]

theorem countsSent_linkTxI {a : Asdu} {s t : State} (h : linkTxI a s = .next t) : CountsSent [.linkTxI a] s t := by
  obtain ⟨e, -, rfl⟩ | ⟨f, rfl⟩ := linkTxI_cases h
  · exact countsSent_of_vs_eq rfl rfl rfl rfl
  · refine ⟨[.bytes f], rfl, rfl, ?_⟩
    rw [State.respond_vs, State.advanceVs_vs, toNat_add_one]
    simp [sentCount, sentI, sentS]

theorem countsSent_linkTxS {s t : State} (h : linkTxS s = .next t) : CountsSent [.linkTxS] s t := by
  obtain ⟨e, -, rfl⟩ | ⟨f, rfl⟩ := linkTxS_cases h
  · exact countsSent_of_vs_eq rfl rfl rfl rfl
  · refine ⟨[.bytes f], by split <;> rfl, rfl, ?_⟩
    cases hadv : s.cfg.sTxAdvancesVs with
    | true =>
      rw [if_pos rfl, State.respond_vs, State.advanceVs_vs, toNat_add_one]
      simp [sentCount, sentI, sentS]
    | false => simp [sentCount, sentI, Nat.mod_eq_of_lt s.vs.isLt]

/-- Of the operations but `RESET`, only the two that send frames of these formats write V(S). -/
theorem countsSent_of_runRequest {r : Request} {s t : State} (hreset : isReset r = false)
    (h : runRequest r s = .next t) : CountsSent [r] s t := by
  have hop := runOp_of_runRequest_next h
  obtain ⟨u, x, he, rfl⟩ := endsIn_of_runOp hop
  cases r with
  | linkTxI a => exact countsSent_linkTxI hop
  | linkTxS => exact countsSent_linkTxS hop
  | reset => cases hreset
  | _ =>
    refine countsSent_of_vs_eq he.resps_eq ?_ rfl rfl
    by_contra hvs
    obtain ⟨a, ha⟩ | ⟨hS, -⟩ | hreset' := he.writes_vs hvs
    · cases ha
    · cases hS
    · cases hreset'

theorem countsSent_of_step {s t : State} (hreset : ∀ r ∈ s.reqs.take 1, isReset r = false) (h : step s = .next t) :
    CountsSent (s.reqs.take 1) s t := by
  cases hq : s.reqs with
  | nil =>
    rw [step_idle s hq] at h
    cases h
    exact .refl s
  | cons r rest =>
    rw [step_pending s hq] at h
    exact countsSent_of_runRequest (s := s.setReqs rest) (hreset r (by simp [hq])) h

theorem countsSent_of_run {n : Nat} {s t : State} (hreset : ∀ r ∈ s.reqs.take n, isReset r = false)
    (h : Host.Core.run core n s = .next t) : CountsSent (s.reqs.take n) s t := by
  induction n generalizing s with
  | zero =>
    cases h
    exact .refl _
  | succ n ih =>
    obtain ⟨u, hstep, hrun⟩ := run_succ h
    obtain ⟨hreqs, -⟩ := step_lists hstep
    have htake : s.reqs.take (n + 1) = s.reqs.take 1 ++ u.reqs.take n := by
      rw [hreqs, Nat.add_comm, List.take_add]
    rw [htake] at hreset ⊢
    obtain ⟨hfirst, hlater⟩ := List.forall_mem_append.1 hreset
    exact (countsSent_of_step hfirst hstep).trans (sticky_of_step hfirst hstep).cfg (ih hlater hrun)

/-- Settles O44: what one step counts, added up over the run (`countsSent_of_run`). -/
theorem sendCount : Obligations.SendCount := by
  intro n s t hreset h
  obtain ⟨rs, hresps, hlen, hvs⟩ := countsSent_of_run hreset h
  exact ⟨rs, hresps, hlen, by rw [hvs, sentCount, Nat.add_assoc]⟩

end Sys2Proof
end

section
/-! PROOF of the statement about the two errors that change state (60_exceptions R351). No codec raises a
SequenceViolation, loop by loop; so the link operations alone do, and every operation ends in one of the ways of
`EndsBy`. -/
namespace Sys2Proof
open Sys2Proof.Machine Sys2Proof.Claims

/-! ### No codec raises a SequenceViolation (R341) -/

/-- The computation r ends in no SequenceViolation. -/
structure NoViolation {α : Type} (r : Except Err α) : Prop where
  ne_violation : ∀ v, r ≠ .error (.sequenceViolation v)

namespace NoViolation
variable {α β : Type}

theorem ok (x : α) : NoViolation (.ok x : Except Err α) := ⟨nofun⟩

theorem malformed (m : Malformed) : NoViolation (.error (.malformedFrame m) : Except Err α) := ⟨nofun⟩

theorem unsupported (u : Unsupported) : NoViolation (.error (.unsupportedType u) : Except Err α) := ⟨nofun⟩

theorem encode (x : EncodeFail) : NoViolation (.error (.encodeError x) : Except Err α) := ⟨nofun⟩

theorem error_ne {r : Except Err α} {e : Err} (hr : NoViolation r) (h : r = .error e) (v : Violation) :
    e ≠ .sequenceViolation v := fun hv => hr.ne_violation v (hv ▸ h)

theorem bind {r : Except Err α} {f : α → Except Err β} (hr : NoViolation r) (hf : ∀ x, NoViolation (f x)) :
    NoViolation (r >>= f) := by
  cases r with
  | ok x => exact hf x
  | error e => exact ⟨fun v h => hr.error_ne rfl v (Except.error.inj h)⟩

theorem map {r : Except Err α} (hr : NoViolation r) (f : α → β) : NoViolation (r.map f) := by
  cases r with
  | ok x => exact .ok (f x)
  | error e => exact ⟨fun v h => hr.error_ne rfl v (Except.error.inj h)⟩

theorem ite {p : Prop} [Decidable p] {r r' : Except Err α} (hr : NoViolation r) (hr' : NoViolation r') :
    NoViolation (if p then r else r') := by
  split
  · exact hr
  · exact hr'

end NoViolation

/-- An element decoder raises M11 alone (R102). -/
theorem noViolation_elemDecode (e : Elem) (S : Span) : NoViolation (elemDecode e S) := by
  obtain ⟨wrong, right, -⟩ := elementCodecContract
  by_cases hlen : S.length = elemWidth e
  · obtain ⟨x, hx, -⟩ := right e S hlen
    rw [hx]; exact .ok x
  · rw [wrong e S hlen]; exact .malformed _

/-- An element encoder raises X1 alone (R101). -/
theorem noViolation_elemEncode (x : ElemV) : NoViolation (elemEncode x) := by
  obtain ⟨-, -, total, -⟩ := elementCodecContract
  obtain ⟨S, hS⟩ | ⟨f, hf⟩ := total x
  · rw [hS]; exact .ok S
  · rw [hf]; exact .encode _

theorem noViolation_decFields (lay : Layout) (S : Span) : NoViolation (decFields lay S) := by
  induction lay generalizing S with
  | nil => exact .ok []
  | cons c lay ih => exact (noViolation_elemDecode c.1 _).bind fun v => (ih _).bind fun rest => .ok _

theorem noViolation_encRecord (v : Record) : NoViolation (encRecord v) := by
  induction v with
  | nil => exact .ok []
  | cons p v ih => exact (noViolation_elemEncode p.2).bind fun S => ih.bind fun T => .ok _

theorem noViolation_elemDecRow (t : Byte) (lay : Layout) (S : Span) : NoViolation (elemDecRow t lay S) :=
  .ite (.malformed _) (noViolation_decFields lay S)

theorem noViolation_elemDec (t : Byte) (S : Span) : NoViolation (elemDec t S) := by
  unfold elemDec
  split
  · exact .unsupported _
  · exact noViolation_elemDecRow t _ S

theorem noViolation_elemEnc (t : Byte) (v : Record) : NoViolation (elemEnc t v) := by
  unfold elemEnc
  split
  · exact .unsupported _
  · exact noViolation_encRecord v

theorem noViolation_decAll {α : Type} {L : Nat} {dec : Nat → Span → Except Err α} (hdec : ∀ i S, NoViolation (dec i S))
    (n i : Nat) (S : Span) : NoViolation (decAll L dec n i S) := by
  induction n generalizing i S with
  | zero => exact .ok []
  | succ n ih => exact (hdec i _).bind fun x => (ih (i + 1) _).bind fun xs => .ok _

theorem noViolation_areaObjs (t : Byte) (lay : Layout) (k ew : Nat) (sq : Bool) (n : Nat) (area : Span) :
    NoViolation (areaObjs t lay k ew sq n area) := by
  rw [areaObjs_eq_decAll]
  exact (noViolation_decAll (fun _ S => (noViolation_elemDecRow t lay S).map _) ..).ite
    (noViolation_decAll (fun _ S => (noViolation_elemDecRow t lay _).map _) ..)

theorem noViolation_areaWidth (sq : Bool) (m n k : Nat) : NoViolation (areaWidth sq m n k) :=
  .ite (.ite (.malformed _) (.ite (.malformed _) (.ok _))) (.ite (.malformed _) (.ite (.malformed _) (.ok _)))

theorem noViolation_asduDecWith (c : Cfg) (lay? : Option Layout) (A : Span) : NoViolation (asduDecWith c lay? A) := by
  refine .ite (.malformed _) (.ite (.malformed _) ((noViolation_areaWidth ..).bind fun ew => ?_))
  cases lay? with
  | none => exact .unsupported _
  | some lay => exact .ite (.malformed _) ((noViolation_areaObjs ..).bind fun objs => .ok _)

theorem noViolation_asduDec (c : Cfg) (A : Span) : NoViolation (asduDec c A) := noViolation_asduDecWith ..

theorem noViolation_joined {r r' : Except Err Span} (hr : NoViolation r) (hr' : NoViolation r') :
    NoViolation (joined r r') := hr.bind fun _ => hr'.bind fun _ => .ok _

theorem noViolation_encAll {α : Type} {enc : α → Except Err Span} (henc : ∀ x, NoViolation (enc x)) (xs : List α) :
    NoViolation (encAll enc xs) := by
  induction xs with
  | nil => exact .ok []
  | cons x xs ih => exact noViolation_joined (henc x) ih

theorem noViolation_addrEnc (f : RangeField) (w x : Nat) : NoViolation (addrEnc f w x) := .ite (.encode _) (.ok _)

theorem noViolation_cotEnc (w : Nat) (x : Cot) : NoViolation (cotEnc w x) := by
  refine .ite (.encode _) ?_
  dsimp only
  split
  · exact .ite (.encode _) (.ok _)
  · exact .ite (.encode _) (.ok _)

theorem noViolation_seqArea (k : Nat) (objs : List InfoObject) : NoViolation (seqArea k objs) := by
  refine (noViolation_addrEnc ..).bind fun a => ?_
  rw [seqValues_eq_encAll]
  split
  · exact .encode _
  · exact (noViolation_encAll (fun o => noViolation_encRecord o.val) objs).bind fun S => .ok _

theorem noViolation_areaEnc (k : Nat) (a : AsduBody) : NoViolation (areaEnc k a) := by
  refine (noViolation_seqArea k a.objs).ite ?_
  rw [setArea_eq_encAll]
  exact noViolation_encAll (fun o => noViolation_joined (noViolation_addrEnc ..) (noViolation_encRecord _)) _

theorem noViolation_asduEncRow (c : Cfg) (t : Byte) (a : AsduBody) : NoViolation (asduEncRow c t a) := by
  by_cases hcount : CountOk a
  · rw [asduEncRow_of_countOk hcount]
    exact (noViolation_joined (noViolation_cotEnc ..)
      (noViolation_joined (noViolation_addrEnc ..) (noViolation_areaEnc ..))).map _
  · rw [asduEncRow_of_not_countOk hcount]; exact .encode _

theorem noViolation_asduEnc (c : Cfg) (a : Asdu) : NoViolation (asduEnc c a) := by
  unfold asduEnc
  split
  · exact .unsupported _
  · exact noViolation_asduEncRow ..

theorem noViolation_apciDec (c : Span) : NoViolation (apciDec c) := by
  unfold apciDec
  split
  · split
    · exact .ok _
    · exact .ok _
    · exact .ok _
    · exact .unsupported _
  · exact .malformed _

theorem noViolation_apciEnc (a : Apci) : NoViolation (apciEnc a) := by
  cases a with
  | i ns nr => exact .ite (.encode _) (.ite (.encode _) (.ok _))
  | s nr => exact .ite (.encode _) (.ok _)
  | u act => exact .ok _

theorem noViolation_frameDec (c : Cfg) (f : Span) : NoViolation (frameDec c f) := by
  refine .ite (.malformed _) (.ite (.malformed _) (.ite (.malformed _) (.ite (.malformed _) ?_)))
  refine (noViolation_apciDec _).bind fun a => ?_
  cases a with
  | i ns nr => exact (noViolation_asduDec ..).bind fun a => .ok _
  | s nr => exact .ite (.malformed _) (.ok _)
  | u act => exact .ite (.malformed _) (.ok _)

theorem noViolation_payloadEnc (c : Cfg) (p : Apdu) : NoViolation (payloadEnc c p) := by
  unfold payloadEnc
  split
  · exact noViolation_asduEnc ..
  · exact .ok _
  · exact .ok _
  · exact .encode _

theorem noViolation_compose (c : Cfg) (p : Apdu) : NoViolation (compose c p) := by
  rw [compose_eq_bind]
  exact (noViolation_apciEnc _).bind fun ctl => (noViolation_payloadEnc c p).bind fun A => .ite (.encode _) (.ok _)

/-! ### How an operation ends (R351) -/

/-- The operation r ends on s with the result x, in the state u. -/
inductive EndsBy : Request → State → State → Response → Prop
  | error {r : Request} {s : State} {e : Err} (he : ∀ v, e ≠ .sequenceViolation v) : EndsBy r s s (.err e)
  | violation {r : Request} {s : State} (v : Violation) : EndsBy r s s.close (.err (.sequenceViolation v))
  | stopFramer (b : Span) (s : State) (fs : List Span) (p : Nat) :
      EndsBy (.feed b) s (s.stopFramer (.m1 p)) (.frames fs (.error (.m1 p)))
  | feed {b : Span} {s u : State} {fs : List Span} {st : Status} (hst : ∀ m, st ≠ .error m) :
      EndsBy (.feed b) s u (.frames fs st)
  | value {r : Request} {s u : State} {x : Response} (hr : ∀ b, r ≠ .feed b) (hx : ∀ e, x ≠ .err e) : EndsBy r s u x

/-- The operation r on s ends in t, in one of the ways of `EndsBy`. -/
def EndsLawfully (r : Request) (s t : State) : Prop := ∃ u x, EndsBy r s u x ∧ t = u.respond x

theorem endsLawfully_of_reply {r : Request} {s u t : State} {x : Response} (h : reply x u = .next t)
    (he : EndsBy r s u x) : EndsLawfully r s t := by
  cases h
  exact ⟨u, x, he, rfl⟩

theorem endsLawfully_of_closed {r : Request} {s t : State} (h : reply (.err .connectionClosed) s = .next t) :
    EndsLawfully r s t := endsLawfully_of_reply h (.error nofun)

/-- A codec answers with its value, or with its error and no state change. -/
theorem endsLawfully_of_answer {α : Type} {f : α → Response} {r : Request} {a : Except Err α} {s t : State}
    (h : answer (a.map f) s = .next t) (ha : NoViolation a) (hr : ∀ b, r ≠ .feed b) (hf : ∀ x e, f x ≠ .err e) :
    EndsLawfully r s t := by
  cases a with
  | ok x => exact endsLawfully_of_reply h (.value hr (hf x))
  | error e => exact endsLawfully_of_reply h (.error (ha.error_ne rfl))

theorem endsLawfully_of_opFeed {b : Span} {s t : State} (h : opFeed b s = .next t) : EndsLawfully (.feed b) s t := by
  cases hf : s.framer with
  | stopped => exact endsLawfully_of_reply ((opFeed_of_stopped b hf).symm.trans h) (.error nofun)
  | run =>
    cases hs : (split (s.rxbuf ++ b)).2 with
    | ok => exact endsLawfully_of_reply ((opFeed_of_split_ok hf hs).symm.trans h) (.feed nofun)
    | m2 p => exact endsLawfully_of_reply ((opFeed_of_split_m2 hf hs).symm.trans h) (.feed nofun)
    | m1 p => exact endsLawfully_of_reply ((opFeed_of_split_m1 hf hs).symm.trans h) (.stopFramer b s _ p)

theorem endsLawfully_of_opLinkRx {p : Apdu} {s t : State} (h : opLinkRx p s = .next t) :
    EndsLawfully (.linkRx p) s t := by
  cases hl : s.link with
  | closed => exact endsLawfully_of_closed (opLinkRx_of_closed hl h)
  | connected =>
    match p with
    | ⟨.i ns nr, some a⟩ =>
      by_cases hseq : nr = s.vs.toNat ∧ ns = s.vr.toNat
      · obtain ⟨rfl, rfl⟩ := hseq
        exact endsLawfully_of_reply ((linkRxI_of_match hl a).symm.trans h) (.value nofun fun _ => nofun)
      · exact endsLawfully_of_reply ((linkRxI_of_mismatch hl a hseq).symm.trans h) (.violation _)
    | ⟨.s nr, none⟩ =>
      by_cases hseq : nr = s.vs.toNat
      · subst hseq
        exact endsLawfully_of_reply ((linkRxS_of_match hl).symm.trans h) (.value nofun fun _ => nofun)
      · exact endsLawfully_of_reply ((linkRxS_of_mismatch hl hseq).symm.trans h) (.violation _)
    | ⟨.u act, none⟩ =>
      exact endsLawfully_of_reply ((linkRxU_of_connected hl act).symm.trans h) (.value nofun fun _ => nofun)
    | ⟨.i _ _, none⟩ | ⟨.s _, some _⟩ | ⟨.u _, some _⟩ => cases h

theorem SendFails.ne_violation {c : Cfg} {e : Err} (h : SendFails c e) (v : Violation) : e ≠ .sequenceViolation v := by
  obtain rfl | ⟨p, hp⟩ := h
  · nofun
  · exact (noViolation_compose c p).error_ne hp v

theorem endsLawfully_of_linkTxI {a : Asdu} {s t : State} (h : linkTxI a s = .next t) :
    EndsLawfully (.linkTxI a) s t := by
  obtain ⟨e, he, rfl⟩ | ⟨f, rfl⟩ := linkTxI_cases h
  · exact ⟨s, _, .error he.ne_violation, rfl⟩
  · exact ⟨_, .bytes f, .value nofun fun _ => nofun, rfl⟩

theorem endsLawfully_of_linkTxS {s t : State} (h : linkTxS s = .next t) : EndsLawfully .linkTxS s t := by
  obtain ⟨e, he, rfl⟩ | ⟨f, rfl⟩ := linkTxS_cases h
  · exact ⟨s, _, .error he.ne_violation, rfl⟩
  · exact ⟨_, .bytes f, .value nofun fun _ => nofun, rfl⟩

theorem endsLawfully_of_linkTxU {act : UAct} {s t : State} (h : linkTxU act s = .next t) :
    EndsLawfully (.linkTxU act) s t := by
  cases hl : s.link with
  | closed => exact endsLawfully_of_closed ((linkTxU_of_closed hl act).symm.trans h)
  | connected =>
    exact endsLawfully_of_answer ((linkTxU_of_connected hl act).symm.trans h) (noViolation_compose _ _) nofun
      fun _ _ => nofun

theorem endsLawfully_of_opReset {c : Cfg} {s t : State} (h : opReset c s = .next t) : EndsLawfully (.reset c) s t := by
  by_cases hc : c.Ok
  · rw [opReset, if_pos hc] at h
    exact endsLawfully_of_reply h (.value nofun fun _ => nofun)
  · rw [opReset, if_neg hc] at h
    cases h

theorem endsLawfully_of_runOp {r : Request} {s t : State} (h : runOp r s = .next t) : EndsLawfully r s t := by
  cases r with
  | elemDec t S => exact endsLawfully_of_answer h (noViolation_elemDec t S) nofun fun _ _ => nofun
  | elemEnc t v => exact endsLawfully_of_answer h (noViolation_elemEnc t v) nofun fun _ _ => nofun
  | asduDec A => exact endsLawfully_of_answer h (noViolation_asduDec _ A) nofun fun _ _ => nofun
  | asduEnc a => exact endsLawfully_of_answer h (noViolation_asduEnc _ a) nofun fun _ _ => nofun
  | apciDec c => exact endsLawfully_of_answer h (noViolation_apciDec c) nofun fun _ _ => nofun
  | apciEnc a => exact endsLawfully_of_answer h (noViolation_apciEnc a) nofun fun _ _ => nofun
  | frameDec f => exact endsLawfully_of_answer h (noViolation_frameDec _ f) nofun fun _ _ => nofun
  | compose p => exact endsLawfully_of_answer h (noViolation_compose _ p) nofun fun _ _ => nofun
  | split buf => exact endsLawfully_of_reply h (.value nofun fun _ => nofun)
  | feed b => exact endsLawfully_of_opFeed h
  | linkRx p => exact endsLawfully_of_opLinkRx h
  | linkTxI a => exact endsLawfully_of_linkTxI h
  | linkTxS => exact endsLawfully_of_linkTxS h
  | linkTxU act => exact endsLawfully_of_linkTxU h
  | transportClosed => exact endsLawfully_of_reply h (.value nofun fun _ => nofun)
  | reset c => exact endsLawfully_of_opReset h

/-- Settles O51: of the ways to end, the result leaves one, and that says what became of the state. -/
theorem errorEffects : Obligations.ErrorEffects := by
  intro r s t h
  obtain ⟨u, x, hends, rfl⟩ := endsLawfully_of_runOp (runOp_of_runRequest_next h)
  have result_eq {y : Response} (hy : (u.respond x).resps = s.resps ++ [y]) : x = y :=
    List.singleton_inj.1 (List.append_inj' hy rfl).2
  refine ⟨fun v hresps => ?violation, fun e hresps he => ?error, fun b fs p hfeed hresps => ?m1⟩
  case violation =>
    cases result_eq hresps
    cases hends with
    | error he => exact absurd rfl (he v)
    | violation => rfl
    | value _ hx => exact absurd rfl (hx _)
  case error =>
    cases result_eq hresps
    cases hends with
    | error => rfl
    | violation v => exact absurd rfl (he v)
    | value _ hx => exact absurd rfl (hx _)
  case m1 =>
    cases result_eq hresps
    cases hends with
    | stopFramer => rfl
    | feed hst => exact absurd rfl (hst _)
    | value hr => exact absurd hfeed (hr b)

end Sys2Proof
end
